-- ==== Sys2Proof/Word.lean ====
section
/-! DEFINITION. Words: the 32-bit register and command word, and the storage byte (00_scope.md R8). -/

namespace Sys2Proof

/-- A host register, a command word, a data value: 32 bits (R8). -/
abbrev Word := BitVec 32

/-- A storage byte: 8 bits (R8). -/
abbrev Byte := BitVec 8

end Sys2Proof
end

