-- ==== Sys2Proof/Config.lean ====
section
/-! DEFINITION. What an instance of the block fixes (00_scope.md R7, R9, R10) and the free values
(R13, R266). Every constant here has NO body: nothing in Lean can evaluate it, so a statement proved
about the model holds whatever its value is. -/

namespace Sys2Proof

/-- The CRC engine's interface (R9): a state, the state after `reset()`, `update(word)`, `finalize()`. -/
structure CrcEngine where
  St : Type
  init : St
  update : St → Word → St
  final : St → BitVec 16

/-- The parameters of one instance that are functions (R9, R10): the CRC engine and the caller's three
predicates over the window contents. -/
structure Params where
  crc : CrcEngine
  predStart : List Byte → Bool
  predLen : List Byte → Bool
  predCrc : List Byte → Bool

namespace Config

/-- CAP minus one, of the instance that `State.reset` describes: `1 <= CAP <= 65536` (R7) and nothing
else is known of it (log 1). -/
opaque capLess1 : Fin 65536

/-- `draw8()`: the n-th free byte taken from source k (R13). No law (log 3, log 24). -/
opaque draw8 (k n : Nat) : Byte

/-- `now()`: the n-th sample of the TIME input of source k (R266). No law, not even monotonicity (log 4,
log 24). -/
opaque time (k n : Nat) : Word

/-- What the storage holds at an index nothing has written: not reset by the block, unspecified
(R47, R280), for source k (log 5, log 24). -/
opaque initialStorage (k a : Nat) : Byte

/-- The CRC engine of platform instance k (R9, log 2). Its state type is `Option` of an unknown type
only so that Lean knows it is not empty: any nonempty type has that form. -/
opaque CrcCarrier : Nat → Type
abbrev CrcState (k : Nat) : Type := Option (CrcCarrier k)
opaque crcInit : (k : Nat) → CrcState k
opaque crcUpdate : (k : Nat) → CrcState k → Word → CrcState k
opaque crcFinal : (k : Nat) → CrcState k → BitVec 16

/-- The three predicates of platform instance k (R10, log 2). -/
opaque predStart : Nat → List Byte → Bool
opaque predLen : Nat → List Byte → Bool
opaque predCrc : Nat → List Byte → Bool

end Config
end Sys2Proof
end

