-- ==== Sys2Proof/Syntax.lean ====
section
/-! DEFINITION. The commands as syntax: one constructor of `Instr` per row of spec/opcode_table.json
(30_encoding.md R97), and the assembler line of R101. -/

namespace Sys2Proof

/-- Field V (R92): view 0 is the receiver window (`W_START`), view 1 the auxiliary base (`XSTART`). -/
inductive View
  | window
  | aux
  deriving DecidableEq, Repr

/-- The 21 opcodes of R97, in the table's order. -/
inductive Opcode
  | getu8 | geti8 | getu16 | geti16 | getu32 | geti32 | getf32 | getbool
  | setu8 | seti8 | setu16 | seti16 | setu32 | seti32 | setf32 | setbool
  | wrap | crc | rxinc | rxall | rxdone
  deriving DecidableEq, Repr

/-- A command with its used fields. The immediate `i` and the bit number `b` are read as natural
numbers (R93, R94); `Instr.wf` says which of them a word can hold. -/
inductive Instr
  | getu8 (v : View) (i : Nat)
  | geti8 (v : View) (i : Nat)
  | getu16 (v : View) (i : Nat)
  | geti16 (v : View) (i : Nat)
  | getu32 (v : View) (i : Nat)
  | geti32 (v : View) (i : Nat)
  | getf32 (v : View) (i : Nat)
  | getbool (v : View) (b : Nat) (i : Nat)
  | setu8 (v : View) (i : Nat)
  | seti8 (v : View) (i : Nat)
  | setu16 (v : View) (i : Nat)
  | seti16 (v : View) (i : Nat)
  | setu32 (v : View) (i : Nat)
  | seti32 (v : View) (i : Nat)
  | setf32 (v : View) (i : Nat)
  | setbool (v : View) (b : Nat) (i : Nat)
  | wrap
  | crc (v : View) (endBlock : Nat)
  | rxinc (maxBytes : Nat)
  | rxall
  | rxdone
  deriving DecidableEq, Repr

/-- Why a command word is illegal (R98). The reason is not recorded by the block (R251). -/
inductive Illegal
  | unassignedOpcode
  | reservedBit
  | unusedField
  deriving DecidableEq, Repr

/-- A command as R101 writes it: a mnemonic and the fields given by name; an omitted field is 0. -/
structure AsmLine where
  op : Opcode
  v : Option Nat := none
  b : Option Nat := none
  i : Option Nat := none
  deriving DecidableEq, Repr

end Sys2Proof
end

