-- ==== Sys2Proof/Machine/State.lean ====
section
/-! DEFINITION. The state of one instance of the block with the agents around it (10_state.md R48,
00_scope.md R4), the reasons a step can stop, and the state right after reset (10_state.md R47). -/

namespace Sys2Proof.Machine

/-- The receiver state machine's state, STATUS[3:2] (R35). -/
inductive Phase
  | searching
  | accumulating
  | validating
  | ready
  deriving DecidableEq, Repr

/-- The outcome of the last receive command, STATUS[6:4] (R36). Codes 5 to 7 are not produced. -/
inductive RxCode
  | none
  | ready
  | nodata
  | incomplete
  | startFail
  deriving DecidableEq, Repr

/-- The code of the first command error since ERR was last 0, STATUS[11:9] (60_exceptions.md R251).
Codes 4 to 7 are not produced. -/
inductive ErrCode
  | none
  | illegalCmd
  | crcRange
  | busyWrite
  deriving DecidableEq, Repr

/-- Which collaborators (CRC engine and predicates) this instance was built with. They are parameters,
fixed for its life (70_reset_and_hazards.md R283); `Machine/Collaborators.lean` gives the functions.
`platform k`: the k-th platform's, free (Config). `reference`: the example instance of
95_test_vectors.md, `RefCRC` with the predicates EX (log 2). -/
inductive Collaborators
  | platform (k : Nat)
  | reference
  deriving DecidableEq, Repr

/-- A host statement (30_encoding.md R102). `cmd` is a `wr` to CMD (`Machine/HostProgram.lean`). -/
inductive HostStmt
  | wr (off : BitVec 6) (v : Word)
  | rd (off : BitVec 6)
  | wait
  deriving DecidableEq, Repr

/-- Whose step the next one is (00_scope.md R4), or that reset is applied (70_reset_and_hazards.md
R280), or that nobody moves (60_exceptions.md R269). -/
inductive Turn
  | engine
  | host
  | producer
  | reset
  | idle
  deriving DecidableEq, Repr

/-- Storage: the bytes something has written, by physical index, strictly rising
(`Memory.wf`, Machine/Ops.lean). An index that is not listed holds a free byte (log 5). -/
abbrev Memory := List Host.Cell

/-- One instance of the block, its storage and queue, and what the agents around it hold. -/
structure State where
  /-- CAP - 1, so that CAP is in [1, 65536] (R7); `State.cap` is CAP. -/
  capLess1 : Fin 65536
  collab : Collaborators
  /-- The model's own: whose free values this instance takes. Instances with different numbers have unrelated
  draws, TIME samples and unwritten storage bytes; no rule relates them (log 24). -/
  source : Nat
  p : BitVec 16
  wdata : Word
  rdata : Word
  xstart : Nat
  wstart : Nat
  wlen : Nat
  phase : Phase
  rxtime : Word
  busy : Bool
  pending : Option Word
  rxok : Bool
  rxcode : RxCode
  err : Bool
  ecode : ErrCode
  mem : Memory
  qhead : Nat
  qcount : Nat
  /-- The Host's statements still to run (R102). -/
  prog : List HostStmt
  /-- The results of the Host's `rd` statements, newest first (R102). -/
  results : List Word
  /-- The bytes the Producer holds and has not appended, oldest first (R66). -/
  incoming : List Byte
  /-- Whose turns come next; `State.nextTurn` says what happens when the list is empty (log 7). -/
  sched : List Turn
  /-- The model's own: how many free bytes have been taken (log 3). -/
  draws : Nat
  /-- The model's own: how many times TIME has been sampled (log 4). -/
  times : Nat
  deriving DecidableEq, Repr

/-- Why the machine stops. The spec's own errors stop nothing (60_exceptions.md R250): they are next
states with ERR and ECODE recorded. -/
inductive Fault
  /-- Raised by RXINC and RXALL outside READY and by RXDONE when `W_LEN > q.COUNT`: the spec gives the
  subtraction `avail - W_LEN` (R205) and `Consume(n)` (R65) only for `W_LEN <= q.COUNT`, and says that it
  always holds (R46 I2). Safe: the model stops where the spec says nothing, and no run reaches it. -/
  | windowBeyondQueue
  deriving DecidableEq, Repr

/-- Why an instruction has no meaning. -/
inductive Refusal
  /-- Raised by an arm of `exec` whose instruction is not modelled yet (none is left). Safe. -/
  | notModelled (mnemonic : String)
  deriving DecidableEq, Repr

/-- Right after reset, with nothing around the block yet: every block register and field as R47 gives
it; the parameters free (log 1, 2); no storage byte written (log 5); the queue empty at head 0 (log 6,
DESIGN CHOICE: the block does not reset it); no statement, byte or turn waiting (log 7 to 9); no free
value taken (log 3, 4), from source 0 (log 24). -/
def State.reset : State where
  capLess1 := Config.capLess1
  collab := .platform 0
  source := 0
  p := 0
  wdata := 0
  rdata := 0
  xstart := 0
  wstart := 0
  wlen := 0
  phase := .searching
  rxtime := 0
  busy := false
  pending := none
  rxok := false
  rxcode := .none
  err := false
  ecode := .none
  mem := []
  qhead := 0
  qcount := 0
  prog := []
  results := []
  incoming := []
  sched := []
  draws := 0
  times := 0

end Sys2Proof.Machine
end

