-- ==== Sys2Proof/Machine/Collaborators.lean ====
section
/-! DEFINITION. The collaborators an instance is built with (00_scope.md R9, R10): a platform's, free;
or the reference CRC and the example predicates EX of 95_test_vectors.md section 1. -/

namespace Sys2Proof.Machine

/-! ## The example instance (95_test_vectors.md section 1; 93_implementation_defined.md K1) -/

/-- One of the 8 shifts of the CRC byte step. -/
def crcShift (st : BitVec 16) : BitVec 16 :=
  if st.getLsbD 15 then (st <<< 1) ^^^ 0x1021#16 else st <<< 1

/-- The CRC byte step: fold one byte, then 8 shifts. -/
def crcByte (st : BitVec 16) (b : Byte) : BitVec 16 :=
  crcShift (crcShift (crcShift (crcShift (crcShift (crcShift (crcShift (crcShift
    (st ^^^ (b.setWidth 16 <<< 8)))))))))

/-- `CrcUpdate` of RefCRC: the word's bytes, most significant first. -/
def crcWord (st : BitVec 16) (w : Word) : BitVec 16 :=
  crcByte (crcByte (crcByte (crcByte st (w.extractLsb' 24 8)) (w.extractLsb' 16 8))
    (w.extractLsb' 8 8)) (w.extractLsb' 0 8)

/-- `crc16(bytes)`, the byte-wise form. -/
def crc16 (bs : List Byte) : BitVec 16 := bs.foldl crcByte 0xFFFF#16

/-- RefCRC as a CRC engine. -/
def refCrc : CrcEngine where
  St := BitVec 16
  init := 0xFFFF#16
  update := crcWord
  final st := st

/-- Byte k of a window; 0 beyond its end (used only where the window is long enough). -/
def winByte (b : List Byte) (k : Nat) : Byte := b.getD k 0

/-- The 16-bit big-endian number at offset k of a window. -/
def win16 (b : List Byte) (k : Nat) : Nat := (winByte b k).toNat * 256 + (winByte b (k + 1)).toNat

/-- `PredStart_EX`: the bytes of the window that lie in the start word equal 0x55. -/
def exPredStart (b : List Byte) : Bool := (b.take 2).all (· == 0x55#8)

/-- `PredLen_EX`: the header and `6 + L` bytes are present, L the length field at offset 2. -/
def exPredLen (b : List Byte) : Bool := decide (4 ≤ b.length) && decide (6 + win16 b 2 ≤ b.length)

/-- `PredCrc_EX`: the byte-wise CRC of the first `4 + L` bytes equals the trailer behind them. -/
def exPredCrc (b : List Byte) : Bool :=
  (crc16 (b.take (4 + win16 b 2))).toNat == win16 b (4 + win16 b 2)

/-! ## The functions of an instance -/

/-- The CRC engine of platform instance k. -/
def platformCrc (k : Nat) : CrcEngine where
  St := Config.CrcState k
  init := Config.crcInit k
  update := Config.crcUpdate k
  final := Config.crcFinal k

def Collaborators.params : Collaborators → Params
  | .platform k => ⟨platformCrc k, Config.predStart k, Config.predLen k, Config.predCrc k⟩
  | .reference => ⟨refCrc, exPredStart, exPredLen, exPredCrc⟩

/-- The CRC of a list of words: reset, one update per word in order, finalize (R182). -/
def crcRun (E : CrcEngine) (ws : List Word) : BitVec 16 := E.final (ws.foldl E.update E.init)

end Sys2Proof.Machine
end

