-- ==== Sys2Proof/Machine/Ops.lean ====
section
/-! DEFINITION. The shared operations: storage, the Byte Queue, free values, the command error and its
clearing (20_memory.md, 60_exceptions.md). -/

namespace Sys2Proof.Machine

/-! ## Storage as data -/

/-- The canonical form: indices strictly rising. An unlisted index holds no written byte, so no entry
can equal what it reads as (log 5). -/
abbrev Memory.wf (m : Memory) : Prop := m.Pairwise (fun c d => c.1 < d.1)

/-- The byte written at index a, if any. -/
def Memory.find : Memory → Nat → Option Byte
  | [], _ => none
  | (x, b) :: m, a => if x = a then some b else Memory.find m a

/-- Write one byte, keeping the form. -/
def Memory.insert (a : Nat) (v : Byte) : Memory → Memory
  | [] => [(a, v)]
  | (x, b) :: m =>
    if a < x then (a, v) :: (x, b) :: m
    else if a = x then (a, v) :: m
    else (x, b) :: Memory.insert a v m

namespace State

/-- CAP, in [1, 65536] (R7). -/
def cap (s : State) : Nat := s.capLess1.val + 1

/-- `MEM[a]`, the stored byte at physical index a: what was written there, or the free byte the storage
holds at power-on (log 5). -/
def byteAt (s : State) (a : Nat) : Byte := (s.mem.find a).getD (Config.initialStorage s.source a)

/-! ## Free values -/

/-- `draw8()`: the k-th free byte of the command or read in hand (R13, log 3). -/
def draw8 (s : State) (k : Nat) : Byte := Config.draw8 s.source (s.draws + k)

/-- n free bytes have been taken (or could have been: one is set aside for every access, log 3). -/
def useDraws (n : Nat) (s : State) : State := { s with draws := s.draws + n }

/-- `now()`: the next sample of TIME (R266). -/
def now (s : State) : Word := Config.time s.source s.times

/-! ## Storage access (R62, R63) -/

/-- `InQueue(a)` (R62): physical index a lies in the queued region. -/
def inQueue (s : State) (a : Nat) : Bool := decide ((a + s.cap - s.qhead) % s.cap < s.qcount)

/-- `MemRead(a, 1)` (R62), as the k-th access of the command in hand. -/
def memRead (s : State) (a k : Nat) : Byte := if s.inQueue a then s.byteAt a else s.draw8 k

/-- `MemWrite(a, 1, v)` (R63): it lands inside and outside the queued region. -/
def memWrite (a : Nat) (v : Byte) (s : State) : State := { s with mem := s.mem.insert a v }

/-! ## The Byte Queue (R64 to R66) -/

/-- `Consume(n)` with `n <= q.COUNT` (R65). -/
def consume (n : Nat) (s : State) : State :=
  { s with qhead := (s.qhead + n) % s.cap, qcount := s.qcount - n }

/-- The Producer appends byte b to a queue that is not full (R66): the byte and its count at once (R68). -/
def enqueue (b : Byte) (s : State) : State :=
  { s with mem := s.mem.insert ((s.qhead + s.qcount) % s.cap) b, qcount := s.qcount + 1 }

/-! ## Registers a command writes -/

def setRdata (v : Word) (s : State) : State := { s with rdata := v }

def setPhase (f : Phase) (s : State) : State := { s with phase := f }

/-- RXOK and RXCODE, the outcome of a receive command (R36). -/
def rxReport (ok : Bool) (c : RxCode) (s : State) : State := { s with rxok := ok, rxcode := c }

/-! ## The command error (R250 to R257) -/

/-- `raise E`: the one exception the block has. It records the first error's code and does nothing
else (R255, R256). -/
def raise (c : ErrCode) (s : State) : State :=
  if s.err then s else { s with err := true, ecode := c }

/-- The only way back from an error (R257). -/
def clearErr (s : State) : State := { s with err := false, ecode := .none }

/-! ## The handshake (R38, R41, R42) -/

/-- A command word is accepted: PENDING holds it and BUSY is 1 (R42). -/
def accept (w : Word) (s : State) : State := { s with pending := some w, busy := true }

/-- The end of an Engine step (R41). -/
def retire (s : State) : State := { s with pending := none, busy := false }

/-! ## Reset (R47, R280, R281) -/

/-- Reset is applied: every piece of block state takes its value of R47, a pending command is discarded;
the parameters, the storage and the queue keep theirs, and so does what the other agents hold. -/
def applyReset (s : State) : State :=
  { s with
    p := 0, wdata := 0, rdata := 0, xstart := 0, wstart := 0, wlen := 0
    phase := .searching, rxtime := 0, busy := false, pending := none
    rxok := false, rxcode := .none, err := false, ecode := .none }

end State
end Sys2Proof.Machine
end

