-- ==== Sys2Proof/Machine/Flags.lean ====
section
/-! DEFINITION. The STATUS register and the codes of its fields (10_state.md R23, R35, R36;
60_exceptions.md R251). -/

namespace Sys2Proof.Machine

/-- PHASE (R35). -/
def Phase.code : Phase → BitVec 2
  | .searching => 0
  | .accumulating => 1
  | .validating => 2
  | .ready => 3

/-- RXCODE (R36). -/
def RxCode.code : RxCode → BitVec 3
  | .none => 0
  | .ready => 1
  | .nodata => 2
  | .incomplete => 3
  | .startFail => 4

/-- ECODE (R251). -/
def ErrCode.code : ErrCode → BitVec 3
  | .none => 0
  | .illegalCmd => 1
  | .crcRange => 2
  | .busyWrite => 3

/-- STATUS from its fields, most significant first: [31:12] 0, ECODE, ERR, [7] 0, RXCODE, PHASE, RXOK,
BUSY (R23). -/
def statusOf (ecode : BitVec 3) (err : Bool) (rxcode : BitVec 3) (phase : BitVec 2) (rxok busy : Bool) : Word :=
  0#20 ++ ecode ++ BitVec.ofBool err ++ 0#1 ++ rxcode ++ phase ++ BitVec.ofBool rxok ++ BitVec.ofBool busy

/-- STATUS as the block holds it (R23). -/
def State.status (s : State) : Word :=
  statusOf s.ecode.code s.err s.rxcode.code s.phase.code s.rxok s.busy

/-- STATUS as a host sees it while BUSY = 1: BUSY, ERR and ECODE are as they are; RXCODE, PHASE and
RXOK are a draw each (R44). -/
def State.statusBusy (s : State) : Word :=
  statusOf s.ecode.code s.err ((s.draw8 0).extractLsb' 0 3) ((s.draw8 1).extractLsb' 0 2)
    ((s.draw8 2).getLsbD 0) true

/-- The number of free bytes a STATUS read while BUSY = 1 takes. -/
def statusBusyDraws : Nat := 3

end Sys2Proof.Machine
end

