-- ==== Sys2Proof/Machine/Port.lean ====
section
/-! DEFINITION. The host register port: the register map and the Host's reads and writes
(10_state.md R20 to R31, R42 to R44). -/

namespace Sys2Proof.Machine

/-- The registers of the port (R20). -/
inductive PortReg
  | cmd
  | status
  | p
  | wdata
  | rdata
  | xstart
  | wstart
  | wlen
  | rxtime
  | capacity
  /-- Offsets 0x28 to 0x3C. -/
  | reserved
  deriving DecidableEq, Repr

/-- The register at a byte offset; bits [1:0] are ignored (R20, R21). -/
def portReg (off : BitVec 6) : PortReg :=
  match (off.extractLsb' 2 4).toNat with
  | 0x0 => .cmd
  | 0x1 => .status
  | 0x2 => .p
  | 0x3 => .wdata
  | 0x4 => .rdata
  | 0x5 => .xstart
  | 0x6 => .wstart
  | 0x7 => .wlen
  | 0x8 => .rxtime
  | 0x9 => .capacity
  | _ => .reserved

namespace State

def setP (v : BitVec 16) (s : State) : State := { s with p := v }

def setWdata (v : Word) (s : State) : State := { s with wdata := v }

/-- XSTART holds `v mod CAP` (R26, R42). -/
def setXstart (v : Word) (s : State) : State := { s with xstart := v.toNat % s.cap }

/-- A write of v to a register while BUSY = 0 (R42). A write to a read-only or reserved slot changes
nothing (R21). -/
def writeReg (r : PortReg) (v : Word) (s : State) : State :=
  match r with
  | .cmd => s.accept v
  | .status => if v.getLsbD 8 then s.clearErr else s
  | .p => s.setP (v.extractLsb' 0 16)
  | .wdata => s.setWdata v
  | .xstart => s.setXstart v
  | .rdata | .wstart | .wlen | .rxtime | .capacity | .reserved => s

/-- A Host write (R42); while BUSY = 1 it is dropped and raises BUSY_WRITE (R43, R254). -/
def hostWrite (off : BitVec 6) (v : Word) (s : State) : State :=
  if s.busy then s.raise .busyWrite else s.writeReg (portReg off) v

/-- What a register reads as while BUSY = 0 (R20 to R31); unused bits read 0. -/
def readReg (s : State) : PortReg → Word
  | .cmd => 0
  | .status => s.status
  | .p => s.p.setWidth 32
  | .wdata => s.wdata
  | .rdata => s.rdata
  | .xstart => BitVec.ofNat 32 s.xstart
  | .wstart => BitVec.ofNat 32 s.wstart
  | .wlen => BitVec.ofNat 32 s.wlen
  | .rxtime => s.rxtime
  | .capacity => BitVec.ofNat 32 s.cap
  | .reserved => 0

/-- Four free bytes: what every register but STATUS reads as while BUSY = 1 (R44, log 12). -/
def drawWord (s : State) : Word := s.draw8 0 ++ s.draw8 1 ++ s.draw8 2 ++ s.draw8 3

/-- The value of a Host read (R44). -/
def readValue (s : State) (r : PortReg) : Word :=
  if s.busy then (if r = .status then s.statusBusy else s.drawWord) else s.readReg r

/-- How many free bytes a Host read takes (R44). -/
def readDraws (s : State) (r : PortReg) : Nat :=
  if s.busy then (if r = .status then statusBusyDraws else 4) else 0

/-- A Host read: it has no side effect on the block (R71). -/
def afterRead (r : PortReg) (s : State) : State := s.useDraws (s.readDraws r)

/-- The result of a `rd` statement is kept (30_encoding.md R102). -/
def record (v : Word) (s : State) : State := { s with results := v :: s.results }

end State
end Sys2Proof.Machine
end

