-- ==== Sys2Proof/Machine/Agents.lean ====
section
/-! DEFINITION. The turns of the Host and of the Producer, and whose turn is next
(00_scope.md R4; 20_memory.md R66; 30_encoding.md R102). -/

namespace Sys2Proof.Machine.State

/-- The Host's statements that are left. -/
def setProg (l : List HostStmt) (s : State) : State := { s with prog := l }

/-- One Host turn: its next statement (R102). `wait` reads STATUS and stays until BUSY reads 0. -/
def hostTurn (s : State) : State :=
  match s.prog with
  | [] => s
  | .wr off v :: rest => (s.hostWrite off v).setProg rest
  | .rd off :: rest => ((s.afterRead (portReg off)).record (s.readValue (portReg off))).setProg rest
  | .wait :: rest =>
    if (s.readValue .status).getLsbD 0 then s.afterRead .status
    else (s.afterRead .status).setProg rest

/-- The bytes the Producer still holds. -/
def setIncoming (l : List Byte) (s : State) : State := { s with incoming := l }

/-- One Producer turn: it appends its next byte where the queue is not full, and has no step otherwise:
the byte stays with it (R66, log 9). -/
def producerTurn (s : State) : State :=
  match s.incoming with
  | [] => s
  | b :: rest => if s.qcount < s.cap then (s.enqueue b).setIncoming rest else s

/-- Whose turn is next. Where `sched` names nobody, a pending command runs, else the Host goes on, else
nobody moves (R293's fairness, log 7). -/
def nextTurn (s : State) : Turn :=
  match s.sched with
  | t :: _ => t
  | [] => if s.pending.isSome then .engine else if s.prog.isEmpty then .idle else .host

/-- The turn is taken. -/
def popTurn (s : State) : State := { s with sched := s.sched.tail }

/-- A host program has ended: its last statement has completed and BUSY = 0 (R294). -/
def programEnded (s : State) : Bool := s.prog.isEmpty && !s.busy

end Sys2Proof.Machine.State
end

