-- ==== Sys2Proof/WellFormed.lean ====
section
/-! DEFINITION. Which commands a command word can hold: the immediate fits 16 bits (30_encoding.md R94)
and the bit number is in [0, 8) (R93). -/

namespace Sys2Proof

/-- Field I holds a natural number in [0, 65535] (R94). -/
def immFits (i : Nat) : Bool := decide (i < 65536)

/-- Field B holds a bit number in [0, 8) (R93). -/
def bitFits (b : Nat) : Bool := decide (b < 8)

def Instr.wf : Instr → Bool
  | .getu8 _ i => immFits i
  | .geti8 _ i => immFits i
  | .getu16 _ i => immFits i
  | .geti16 _ i => immFits i
  | .getu32 _ i => immFits i
  | .geti32 _ i => immFits i
  | .getf32 _ i => immFits i
  | .getbool _ b i => bitFits b && immFits i
  | .setu8 _ i => immFits i
  | .seti8 _ i => immFits i
  | .setu16 _ i => immFits i
  | .seti16 _ i => immFits i
  | .setu32 _ i => immFits i
  | .seti32 _ i => immFits i
  | .setf32 _ i => immFits i
  | .setbool _ b i => bitFits b && immFits i
  | .wrap => true
  | .crc _ e => immFits e
  | .rxinc n => immFits n
  | .rxall => true
  | .rxdone => true

end Sys2Proof
end

