-- ==== Sys2Proof/Decode.lean ====
section
/-! DEFINITION. Decoding a command word and encoding a command (30_encoding.md R90 to R101). Every
command is one 32-bit word; decoding is total and rejects by name. -/

namespace Sys2Proof

/-! ## The fields of format C (R90) -/

def opcField (w : Word) : BitVec 6 := w.extractLsb' 26 6
def viewField (w : Word) : BitVec 1 := w.extractLsb' 25 1
def reservedHi (w : Word) : BitVec 1 := w.extractLsb' 24 1
def bitField (w : Word) : BitVec 3 := w.extractLsb' 21 3
def reservedLo (w : Word) : BitVec 5 := w.extractLsb' 16 5
def immField (w : Word) : BitVec 16 := w.extractLsb' 0 16

/-- The word of format C with the given fields, most significant first; reserved bits are 0 (R90, R95). -/
def formatC (opc : BitVec 6) (v : BitVec 1) (b : BitVec 3) (i : BitVec 16) : Word :=
  opc ++ v ++ 0#1 ++ b ++ 0#5 ++ i

def View.bit : View → BitVec 1
  | .window => 0#1
  | .aux => 1#1

def View.ofBit (v : BitVec 1) : View := if v = 0#1 then .window else .aux

/-! ## The opcode map (R97) -/

def Opcode.code : Opcode → BitVec 6
  | .getu8 => 0x01 | .geti8 => 0x02 | .getu16 => 0x03 | .geti16 => 0x04
  | .getu32 => 0x05 | .geti32 => 0x06 | .getf32 => 0x07 | .getbool => 0x08
  | .setu8 => 0x09 | .seti8 => 0x0A | .setu16 => 0x0B | .seti16 => 0x0C
  | .setu32 => 0x0D | .seti32 => 0x0E | .setf32 => 0x0F | .setbool => 0x10
  | .wrap => 0x11 | .crc => 0x12 | .rxinc => 0x18 | .rxall => 0x19 | .rxdone => 0x1A

/-- The command an OPC value selects; every value R97 does not list selects none (R91, R98). -/
def Opcode.ofCode (c : BitVec 6) : Option Opcode :=
  match c.toNat with
  | 0x01 => some .getu8 | 0x02 => some .geti8 | 0x03 => some .getu16 | 0x04 => some .geti16
  | 0x05 => some .getu32 | 0x06 => some .geti32 | 0x07 => some .getf32 | 0x08 => some .getbool
  | 0x09 => some .setu8 | 0x0A => some .seti8 | 0x0B => some .setu16 | 0x0C => some .seti16
  | 0x0D => some .setu32 | 0x0E => some .seti32 | 0x0F => some .setf32 | 0x10 => some .setbool
  | 0x11 => some .wrap | 0x12 => some .crc
  | 0x18 => some .rxinc | 0x19 => some .rxall | 0x1A => some .rxdone
  | _ => none

/-- The column "used fields" of R97: V. -/
def Opcode.usesView : Opcode → Bool
  | .wrap | .rxinc | .rxall | .rxdone => false
  | .getu8 | .geti8 | .getu16 | .geti16 | .getu32 | .geti32 | .getf32 | .getbool
  | .setu8 | .seti8 | .setu16 | .seti16 | .setu32 | .seti32 | .setf32 | .setbool | .crc => true

/-- The column "used fields" of R97: B. -/
def Opcode.usesBit : Opcode → Bool
  | .getbool | .setbool => true
  | .getu8 | .geti8 | .getu16 | .geti16 | .getu32 | .geti32 | .getf32
  | .setu8 | .seti8 | .setu16 | .seti16 | .setu32 | .seti32 | .setf32
  | .wrap | .crc | .rxinc | .rxall | .rxdone => false

/-- The column "used fields" of R97: I. -/
def Opcode.usesImm : Opcode → Bool
  | .wrap | .rxall | .rxdone => false
  | .getu8 | .geti8 | .getu16 | .geti16 | .getu32 | .geti32 | .getf32 | .getbool
  | .setu8 | .seti8 | .setu16 | .seti16 | .setu32 | .seti32 | .setf32 | .setbool
  | .crc | .rxinc => true

/-- The column "match" of R97, as the table prints it. -/
def Opcode.matchWord : Opcode → Word
  | .getu8 => 0x04000000 | .geti8 => 0x08000000 | .getu16 => 0x0C000000 | .geti16 => 0x10000000
  | .getu32 => 0x14000000 | .geti32 => 0x18000000 | .getf32 => 0x1C000000 | .getbool => 0x20000000
  | .setu8 => 0x24000000 | .seti8 => 0x28000000 | .setu16 => 0x2C000000 | .seti16 => 0x30000000
  | .setu32 => 0x34000000 | .seti32 => 0x38000000 | .setf32 => 0x3C000000 | .setbool => 0x40000000
  | .wrap => 0x44000000 | .crc => 0x48000000
  | .rxinc => 0x60000000 | .rxall => 0x64000000 | .rxdone => 0x68000000

/-- The column "mask" of R97, as the table prints it. -/
def Opcode.maskWord : Opcode → Word
  | .getu8 | .geti8 | .getu16 | .geti16 | .getu32 | .geti32 | .getf32
  | .setu8 | .seti8 | .setu16 | .seti16 | .setu32 | .seti32 | .setf32 | .crc => 0xFDFF0000
  | .getbool | .setbool => 0xFD1F0000
  | .rxinc => 0xFFFF0000
  | .wrap | .rxall | .rxdone => 0xFFFFFFFF

/-- The command with opcode `op` and the given fields; a field it does not use is dropped. -/
def Opcode.build (op : Opcode) (v : View) (b i : Nat) : Instr :=
  match op with
  | .getu8 => .getu8 v i
  | .geti8 => .geti8 v i
  | .getu16 => .getu16 v i
  | .geti16 => .geti16 v i
  | .getu32 => .getu32 v i
  | .geti32 => .geti32 v i
  | .getf32 => .getf32 v i
  | .getbool => .getbool v b i
  | .setu8 => .setu8 v i
  | .seti8 => .seti8 v i
  | .setu16 => .setu16 v i
  | .seti16 => .seti16 v i
  | .setu32 => .setu32 v i
  | .seti32 => .seti32 v i
  | .setf32 => .setf32 v i
  | .setbool => .setbool v b i
  | .wrap => .wrap
  | .crc => .crc v i
  | .rxinc => .rxinc i
  | .rxall => .rxall
  | .rxdone => .rxdone

/-! ## Decoding (R98, R100) -/

/-- A reserved bit, [24] or [20:16], is 1 (R95). -/
def reservedSet (w : Word) : Bool := reservedHi w != 0 || reservedLo w != 0

/-- A field the command does not use is nonzero (R96). -/
def unusedSet (op : Opcode) (w : Word) : Bool :=
  (!op.usesView && viewField w != 0) || (!op.usesBit && bitField w != 0)
    || (!op.usesImm && immField w != 0)

/-- `Decode(w)` (R100): the command, or why the word is illegal (R98). -/
def decode (w : Word) : Except Illegal Instr :=
  match Opcode.ofCode (opcField w) with
  | none => .error .unassignedOpcode
  | some op =>
    if reservedSet w then .error .reservedBit
    else if unusedSet op w then .error .unusedField
    else .ok (op.build (View.ofBit (viewField w)) (bitField w).toNat (immField w).toNat)

/-- The host's question about one opcode-table row: the word is one 32-bit command word, numbered as
the table numbers it. -/
def decodeTableWord (nbits w : Nat) : Option Instr :=
  match decode (BitVec.ofNat 32 (w % 2 ^ nbits)) with
  | .ok i => some i
  | .error _ => none

/-! ## Encoding (R97, R101) -/

def Instr.opcode : Instr → Opcode
  | .getu8 _ _ => .getu8
  | .geti8 _ _ => .geti8
  | .getu16 _ _ => .getu16
  | .geti16 _ _ => .geti16
  | .getu32 _ _ => .getu32
  | .geti32 _ _ => .geti32
  | .getf32 _ _ => .getf32
  | .getbool _ _ _ => .getbool
  | .setu8 _ _ => .setu8
  | .seti8 _ _ => .seti8
  | .setu16 _ _ => .setu16
  | .seti16 _ _ => .seti16
  | .setu32 _ _ => .setu32
  | .seti32 _ _ => .seti32
  | .setf32 _ _ => .setf32
  | .setbool _ _ _ => .setbool
  | .wrap => .wrap
  | .crc _ _ => .crc
  | .rxinc _ => .rxinc
  | .rxall => .rxall
  | .rxdone => .rxdone

/-- Field V of a command; 0 where it uses none (R96). -/
def Instr.view : Instr → View
  | .getu8 v _ | .geti8 v _ | .getu16 v _ | .geti16 v _ | .getu32 v _ | .geti32 v _ | .getf32 v _
  | .getbool v _ _ | .setu8 v _ | .seti8 v _ | .setu16 v _ | .seti16 v _ | .setu32 v _ | .seti32 v _
  | .setf32 v _ | .setbool v _ _ | .crc v _ => v
  | .wrap | .rxinc _ | .rxall | .rxdone => .window

/-- Field B of a command; 0 where it uses none (R96). -/
def Instr.bitNum : Instr → Nat
  | .getbool _ b _ | .setbool _ b _ => b
  | .getu8 _ _ | .geti8 _ _ | .getu16 _ _ | .geti16 _ _ | .getu32 _ _ | .geti32 _ _ | .getf32 _ _
  | .setu8 _ _ | .seti8 _ _ | .setu16 _ _ | .seti16 _ _ | .setu32 _ _ | .seti32 _ _ | .setf32 _ _
  | .wrap | .crc _ _ | .rxinc _ | .rxall | .rxdone => 0

/-- Field I of a command; 0 where it uses none (R96). -/
def Instr.imm : Instr → Nat
  | .getu8 _ i | .geti8 _ i | .getu16 _ i | .geti16 _ i | .getu32 _ i | .geti32 _ i | .getf32 _ i
  | .getbool _ _ i | .setu8 _ i | .seti8 _ i | .setu16 _ i | .seti16 _ i | .setu32 _ i | .seti32 _ i
  | .setf32 _ i | .setbool _ _ i | .crc _ i | .rxinc i => i
  | .wrap | .rxall | .rxdone => 0

/-- The command word of a command. An operand that does not fit its field, for which no rule gives a word, is cut
to the field's low bits (DESIGN CHOICE, log 25). -/
def encode (i : Instr) : Word :=
  formatC i.opcode.code i.view.bit (BitVec.ofNat 3 i.bitNum) (BitVec.ofNat 16 i.imm)

/-! ## The assembler line (R101) -/

/-- A given field must be one the command uses and must fit; an omitted field is 0. -/
def asmField (used : Bool) (bound : Nat) : Option Nat → Option Nat
  | none => some 0
  | some n => if used && decide (n < bound) then some n else none

/-- The command an assembler line writes, or none where the line is not one (R101). -/
def assemble (l : AsmLine) : Option Instr :=
  match asmField l.op.usesView 2 l.v, asmField l.op.usesBit 8 l.b, asmField l.op.usesImm 65536 l.i with
  | some v, some b, some i => some (l.op.build (View.ofBit (BitVec.ofNat 1 v)) b i)
  | _, _, _ => none

end Sys2Proof
end

