-- ==== Sys2Proof/Machine/Operands.lean ====
section
/-! DEFINITION. The operands of the commands (30_encoding.md R104) and the logical-to-physical
translation (20_memory.md R61). -/

namespace Sys2Proof.Machine.State

/-- `base(V)` (R61). -/
def base (s : State) : View → Nat
  | .window => s.wstart
  | .aux => s.xstart

/-- `phys(V, l) = (base(V) + l) mod CAP`, the sum exact (R61). -/
def phys (s : State) (v : View) (l : Nat) : Nat := (s.base v + l) % s.cap

/-- The block offset `p = zext(x[P])` (R104); CRC's `startBlock`. -/
def pOffset (s : State) : Nat := s.p.toNat

/-- The physical index of byte k of the field at offset i: each byte is translated on its own (R61,
R104, R120, R150). -/
def fieldIndex (s : State) (v : View) (i k : Nat) : Nat := s.phys v (s.pOffset + i + k)

/-! ## Fields read (R120): big-endian, byte 0 the most significant (R69) -/

/-- `Fetch(k)` (R120). -/
def fetch (s : State) (v : View) (i k : Nat) : Byte := s.memRead (s.fieldIndex v i k) k

def fetch16 (s : State) (v : View) (i : Nat) : BitVec 16 := s.fetch v i 0 ++ s.fetch v i 1

def fetch32 (s : State) (v : View) (i : Nat) : Word :=
  s.fetch v i 0 ++ s.fetch v i 1 ++ s.fetch v i 2 ++ s.fetch v i 3

/-! ## Fields written (R150): in ascending order of position (R72) -/

/-- `Store(k, b)` (R150). -/
def store (v : View) (i k : Nat) (b : Byte) (s : State) : State := s.memWrite (s.fieldIndex v i k) b

def store8 (v : View) (i : Nat) (x : Byte) (s : State) : State := s.store v i 0 x

def store16 (v : View) (i : Nat) (x : BitVec 16) (s : State) : State :=
  (s.store v i 0 (x.extractLsb' 8 8)).store v i 1 (x.extractLsb' 0 8)

def store32 (v : View) (i : Nat) (x : Word) (s : State) : State :=
  (((s.store v i 0 (x.extractLsb' 24 8)).store v i 1 (x.extractLsb' 16 8)).store v i 2
    (x.extractLsb' 8 8)).store v i 3 (x.extractLsb' 0 8)

/-- The store value of width 1, 2, 4 bytes: WDATA's low bits (R104). -/
def store8Value (s : State) : Byte := s.wdata.extractLsb' 0 8
def store16Value (s : State) : BitVec 16 := s.wdata.extractLsb' 0 16
def store32Value (s : State) : Word := s.wdata

/-- The store value of SETBOOL: WDATA[0] (R104, R158). -/
def boolValue (s : State) : Bool := s.wdata.getLsbD 0

/-! ## A CRC range (R181) -/

/-- The word of logical block l, its bytes the accesses k to k+3 of the command (R181). -/
def wordAt (s : State) (v : View) (l k : Nat) : Word :=
  s.memRead (s.phys v l) k ++ s.memRead (s.phys v (l + 1)) (k + 1)
    ++ s.memRead (s.phys v (l + 2)) (k + 2) ++ s.memRead (s.phys v (l + 3)) (k + 3)

/-- The n words from logical block l on, in ascending order. -/
def wordsAt (s : State) (v : View) (l n : Nat) : List Word :=
  (List.range n).map (fun j => s.wordAt v (l + 4 * j) (4 * j))

/-! ## The window (R32) -/

/-- `Win()`: the window contents (R32). -/
def win (s : State) : List Byte :=
  (List.range s.wlen).map (fun k => s.memRead (s.phys .window k) k)

/-- The instance's parameters (R9, R10, R283). -/
def params (s : State) : Params := s.collab.params

end Sys2Proof.Machine.State
end

