-- ==== Sys2Proof/Machine/Get.lean ====
section
/-! DEFINITION. The field readers (40_transcoder_get.md R120 to R128). Each writes RDATA only (R120). -/

namespace Sys2Proof.Machine

/-- A GET of W bytes ends with its value in RDATA; W accesses were made. -/
def getResult (W : Nat) (x : Word) (s : State) : Host.Outcome State Fault Refusal :=
  .next ((s.setRdata x).useDraws W)

/-- GETU8 (R121). -/
def execGetU8 (v : View) (i : Nat) (s : State) : Host.Outcome State Fault Refusal :=
  getResult 1 ((s.fetch v i 0).setWidth 32) s

/-- GETI8 (R122). -/
def execGetI8 (v : View) (i : Nat) (s : State) : Host.Outcome State Fault Refusal :=
  getResult 1 ((s.fetch v i 0).signExtend 32) s

/-- GETU16 (R123). -/
def execGetU16 (v : View) (i : Nat) (s : State) : Host.Outcome State Fault Refusal :=
  getResult 2 ((s.fetch16 v i).setWidth 32) s

/-- GETI16 (R124). -/
def execGetI16 (v : View) (i : Nat) (s : State) : Host.Outcome State Fault Refusal :=
  getResult 2 ((s.fetch16 v i).signExtend 32) s

/-- GETU32 (R125). -/
def execGetU32 (v : View) (i : Nat) (s : State) : Host.Outcome State Fault Refusal :=
  getResult 4 (s.fetch32 v i) s

/-- GETI32: the true 32-bit value of 4 bytes (R126, 90_conflicts.md C2). -/
def execGetI32 (v : View) (i : Nat) (s : State) : Host.Outcome State Fault Refusal :=
  getResult 4 (s.fetch32 v i) s

/-- GETF32: the bit pattern of 4 bytes, with no conversion (R127). -/
def execGetF32 (v : View) (i : Nat) (s : State) : Host.Outcome State Fault Refusal :=
  getResult 4 (s.fetch32 v i) s

/-- GETBOOL: bit b of the byte, bit 0 the least significant (R128). -/
def execGetBool (v : View) (b i : Nat) (s : State) : Host.Outcome State Fault Refusal :=
  getResult 1 ((BitVec.ofBool ((s.fetch v i 0).getLsbD b)).setWidth 32) s

end Sys2Proof.Machine
end

