-- ==== Sys2Proof/Machine/Receiver.lean ====
section
/-! DEFINITION. The frame receiver (43_receiver.md R200 to R208). -/

namespace Sys2Proof.Machine

namespace State

/-- `Grow()` (R202): one more byte; the first byte of a candidate frame latches TIME. -/
def grow (s : State) : State :=
  { s with
    rxtime := if s.wlen = 0 then s.now else s.rxtime
    times := if s.wlen = 0 then s.times + 1 else s.times
    wlen := s.wlen + 1 }

/-- The window moves on by one byte (R203). -/
def advanceWindow (s : State) : State :=
  { s with wstart := (s.wstart + 1) % s.cap, wlen := s.wlen - 1 }

/-- `Skip()` (R203): consume one byte and move the window. -/
def skip (s : State) : State := (s.consume 1).advanceWindow

/-- `avail - x[W_LEN]` (R205), with `avail` the count of the queue when the command starts (R204). -/
def fresh (s : State) : Nat := s.qcount - s.wlen

/-- The window claims more bytes than the queue holds: no rule says what a receive command does then
(R46 I2, R65, R205; log 10). -/
def windowBeyond (s : State) : Bool := decide (s.qcount < s.wlen)

end State

/-- How a scan of the window ends (R206). -/
inductive ScanEnd
  /-- Skips emptied the window. -/
  | emptied
  /-- `PredLen` is false: more bytes are needed. -/
  | needMore
  /-- `PredCrc` is true: the frame is accepted. -/
  | accepted
  deriving DecidableEq, Repr

/-- One evaluation of a predicate reads the whole window: W_LEN accesses (R71, log 13). -/
def State.readWin (s : State) : State := s.useDraws s.wlen

/-- The loop `while x[W_LEN] > 0` of RXINC (R206). The number bounds the passes left: each pass that
goes on skips a byte, so W_LEN passes are enough (R210). -/
def scan : Nat → State → ScanEnd × State
  | 0, s => (.emptied, s)
  | n + 1, s =>
    if s.wlen = 0 then (.emptied, s)
    else if s.params.predStart s.win then
      let a := s.readWin.setPhase .accumulating
      if a.params.predLen a.win then
        let b := a.readWin.setPhase .validating
        if b.params.predCrc b.win then (.accepted, b.readWin.setPhase .ready)
        else scan n (b.readWin.skip.setPhase .searching)
      else (.needMore, a.readWin)
    else scan n (s.readWin.skip.setPhase .searching)

/-- The outer loop of RXINC (R206), by the budget left. -/
def rxincLoop : Nat → State → State
  | 0, s => s.rxReport false .incomplete
  | budget + 1, s =>
    match scan (s.wlen + 1) s.grow with
    | (.accepted, t) => t.rxReport true .ready
    | (_, t) => rxincLoop budget t

/-- The loop of RXALL (R207), by the budget left. -/
def rxallLoop : Nat → State → State
  | 0, s => s.rxReport false .incomplete
  | budget + 1, s =>
    let g := s.grow
    if g.params.predStart g.win then
      let a := g.readWin.setPhase .accumulating
      if a.params.predLen a.win then (a.readWin.setPhase .ready).rxReport true .ready
      else rxallLoop budget a.readWin
    else (g.readWin.setPhase .searching).rxReport false .startFail

/-- RXINC and RXALL before their loop (R206, R207): a held frame is reported again; no new byte is
NODATA. -/
def receive (budget : Nat) (loop : Nat → State → State) (s : State) : Host.Outcome State Fault Refusal :=
  if s.phase = .ready then .next (s.rxReport true .ready)
  else if s.windowBeyond then .fault .windowBeyondQueue
  else if budget = 0 then .next (s.rxReport false .nodata)
  else .next (loop budget s)

/-- RXINC (R206): the budget is `min(maxBytes, avail - W_LEN)` (R205). -/
def execRxInc (maxBytes : Nat) (s : State) : Host.Outcome State Fault Refusal :=
  receive (min maxBytes s.fresh) rxincLoop s

/-- RXALL (R207): the budget is `avail - W_LEN` (R205). -/
def execRxAll (s : State) : Host.Outcome State Fault Refusal :=
  receive s.fresh rxallLoop s

/-- The window is empty at the queue's head (R208). -/
def State.emptyWindow (s : State) : State := { s with wstart := s.qhead, wlen := 0 }

/-- RXDONE (R208): drain the window's bytes, then an empty window at the queue's new head. -/
def execRxDone (s : State) : Host.Outcome State Fault Refusal :=
  if s.windowBeyond then .fault .windowBeyondQueue
  else .next ((((s.consume s.wlen).emptyWindow).setPhase .searching).rxReport false .none)

end Sys2Proof.Machine
end

