-- ==== Sys2Proof/Machine/Set.lean ====
section
/-! DEFINITION. The field writers (41_transcoder_set.md R150 to R158). Each writes storage only (R150). -/

namespace Sys2Proof.Machine

/-- SETU8 (R151). -/
def execSetU8 (v : View) (i : Nat) (s : State) : Host.Outcome State Fault Refusal :=
  .next (s.store8 v i s.store8Value)

/-- SETI8 (R152). -/
def execSetI8 (v : View) (i : Nat) (s : State) : Host.Outcome State Fault Refusal :=
  .next (s.store8 v i s.store8Value)

/-- SETU16 (R153). -/
def execSetU16 (v : View) (i : Nat) (s : State) : Host.Outcome State Fault Refusal :=
  .next (s.store16 v i s.store16Value)

/-- SETI16 (R154). -/
def execSetI16 (v : View) (i : Nat) (s : State) : Host.Outcome State Fault Refusal :=
  .next (s.store16 v i s.store16Value)

/-- SETU32 (R155). -/
def execSetU32 (v : View) (i : Nat) (s : State) : Host.Outcome State Fault Refusal :=
  .next (s.store32 v i s.store32Value)

/-- SETI32 (R156). -/
def execSetI32 (v : View) (i : Nat) (s : State) : Host.Outcome State Fault Refusal :=
  .next (s.store32 v i s.store32Value)

/-- SETF32: the bit pattern, with no conversion, rounding or canonicalisation (R157). -/
def execSetF32 (v : View) (i : Nat) (s : State) : Host.Outcome State Fault Refusal :=
  .next (s.store32 v i s.store32Value)

/-- Byte x with bit b set or cleared, the other bits as they are (R158). -/
def withBit (x : Byte) (b : Nat) (on : Bool) : Byte :=
  if on then x ||| (1#8 <<< b) else x &&& ~~~(1#8 <<< b)

/-- SETBOOL: read the byte, set or clear bit b by WDATA[0], write it back; one access reads (R158). -/
def execSetBool (v : View) (b i : Nat) (s : State) : Host.Outcome State Fault Refusal :=
  .next ((s.store v i 0 (withBit (s.fetch v i 0) b s.boolValue)).useDraws 1)

end Sys2Proof.Machine
end

