-- ==== Sys2Proof/Machine/WrapCrc.lean ====
section
/-! DEFINITION. WRAP and CRC (42_wrap_crc.md R180 to R183). -/

namespace Sys2Proof.Machine

/-- WRAP: WDATA mod CAP (R180). -/
def execWrap (s : State) : Host.Outcome State Fault Refusal :=
  .next (s.setRdata (BitVec.ofNat 32 (s.wdata.toNat % s.cap)))

/-- The range `[sb, e)` is not a whole number of words, or ends before it starts (R181, R253). -/
def crcRangeBad (sb e : Nat) : Bool := decide (e < sb) || decide ((e - sb) % 4 ≠ 0)

/-- CRC over the words of `[P, endBlock)`: CRC_RANGE on an ill-formed range, before any engine
operation; otherwise the engine's result, zero-extended (R181). -/
def execCrc (v : View) (endBlock : Nat) (s : State) : Host.Outcome State Fault Refusal :=
  if crcRangeBad s.pOffset endBlock then .next (s.raise .crcRange)
  else
    .next ((s.setRdata ((crcRun s.params.crc
        (s.wordsAt v s.pOffset ((endBlock - s.pOffset) / 4))).setWidth 32)).useDraws
      (endBlock - s.pOffset))

end Sys2Proof.Machine
end

