-- ==== Sys2Proof/Machine/Dispatch.lean ====
section
/-! DEFINITION. One arm per command (30_encoding.md R97, R100). -/

namespace Sys2Proof.Machine

def exec (i : Instr) (s : State) : Host.Outcome State Fault Refusal :=
  match i with
  | .getu8 v k => Sys2Proof.Machine.execGetU8 v k s
  | .geti8 v k => Sys2Proof.Machine.execGetI8 v k s
  | .getu16 v k => Sys2Proof.Machine.execGetU16 v k s
  | .geti16 v k => Sys2Proof.Machine.execGetI16 v k s
  | .getu32 v k => Sys2Proof.Machine.execGetU32 v k s
  | .geti32 v k => Sys2Proof.Machine.execGetI32 v k s
  | .getf32 v k => Sys2Proof.Machine.execGetF32 v k s
  | .getbool v b k => Sys2Proof.Machine.execGetBool v b k s
  | .setu8 v k => Sys2Proof.Machine.execSetU8 v k s
  | .seti8 v k => Sys2Proof.Machine.execSetI8 v k s
  | .setu16 v k => Sys2Proof.Machine.execSetU16 v k s
  | .seti16 v k => Sys2Proof.Machine.execSetI16 v k s
  | .setu32 v k => Sys2Proof.Machine.execSetU32 v k s
  | .seti32 v k => Sys2Proof.Machine.execSetI32 v k s
  | .setf32 v k => Sys2Proof.Machine.execSetF32 v k s
  | .setbool v b k => Sys2Proof.Machine.execSetBool v b k s
  | .wrap => Sys2Proof.Machine.execWrap s
  | .crc v e => Sys2Proof.Machine.execCrc v e s
  | .rxinc n => Sys2Proof.Machine.execRxInc n s
  | .rxall => Sys2Proof.Machine.execRxAll s
  | .rxdone => Sys2Proof.Machine.execRxDone s

end Sys2Proof.Machine
end

