-- ==== Sys2Proof/Machine/Engine.lean ====
section
/-! DEFINITION. The Engine step (10_state.md R41; 30_encoding.md R100; 60_exceptions.md R252, R256). -/

namespace Sys2Proof.Machine

/-- A command has run: PENDING and BUSY are cleared (R41). -/
def retired : Host.Outcome State Fault Refusal → Host.Outcome State Fault Refusal
  | .next t => .next t.retire
  | .fault f => .fault f
  | .refused r => .refused r

/-- The Engine runs a command word: decode it, run the command, or raise ILLEGAL_CMD (R100, R252). -/
def runWord (w : Word) (s : State) : Host.Outcome State Fault Refusal :=
  match decode w with
  | .ok i => retired (exec i s)
  | .error _ => .next (s.raise .illegalCmd).retire

/-- The Engine step is enabled when PENDING holds a word (R41); otherwise the turn passes. -/
def engineTurn (s : State) : Host.Outcome State Fault Refusal :=
  match s.pending with
  | some w => runWord w s
  | none => .next s

end Sys2Proof.Machine
end

