-- ==== Sys2Proof/Machine/Step.lean ====
section
/-! DEFINITION. One step: the turn of one agent (00_scope.md R4), and how the host of the pipeline places
a command word. -/

namespace Sys2Proof.Machine

def step (s : State) : Host.Outcome State Fault Refusal :=
  match s.nextTurn with
  | .engine => engineTurn s.popTurn
  | .host => .next s.popTurn.hostTurn
  | .producer => .next s.popTurn.producerTurn
  | .reset => .next s.popTurn.applyReset
  | .idle => .next s.popTurn

/-- The command word, accepted as a CMD write accepts it (R42), and the next turn the Engine's: the block
fetches nothing (R39), so this is where a command is taken from (log 11). -/
def State.withFetchWord (s : State) (nbits w : Nat) : State :=
  { s.accept (BitVec.ofNat 32 (w % 2 ^ nbits)) with sched := .engine :: s.sched }

end Sys2Proof.Machine
end

