-- ==== Sys2Proof/Machine/System.lean ====
section
/-! DEFINITION. Several instances of the block (00_scope.md R11; 60_exceptions.md R268): each has its own
state, queue and storage, and a step moves one of them. How the free values of two instances relate is the
model's choice (log 24): no rule says. -/

namespace Sys2Proof.Machine

/-- One step of instance k; where there is no such instance nothing happens. The instances of a list take
their draws, TIME samples and unwritten storage bytes each from its own `source`; only two states with one
`source` share them, and a system is meant to have different ones (DESIGN CHOICE, log 24). -/
def systemStep (k : Nat) (sys : List State) : Host.Outcome (List State) Fault Refusal :=
  match sys[k]? with
  | none => .next sys
  | some s =>
    match step s with
    | .next t => .next (sys.set k t)
    | .fault f => .fault f
    | .refused r => .refused r

end Sys2Proof.Machine
end

