-- ==== Sys2Proof/Safety.lean ====
section
/-! DEFINITION. What a safe run keeps (10_state.md R46), and the duties the spec puts on the predicates
(43_receiver.md R201). -/

namespace Sys2Proof.Machine

/-- What holds at every command boundary of every run from reset, booted or not: R46 I1, I2, I4, with
the handshake of R38, the codes of R36 and R251, and storage in its canonical form inside [0, CAP). -/
structure State.Inv (s : State) : Prop where
  wstart_lt : s.wstart < s.cap
  xstart_lt : s.xstart < s.cap
  qhead_lt : s.qhead < s.cap
  qcount_le : s.qcount ≤ s.cap
  wlen_le : s.wlen ≤ s.qcount
  not_validating : s.phase ≠ .validating
  empty_searching : s.wlen = 0 → s.phase = .searching
  ready_iff : s.phase = .ready ↔ s.rxcode = .ready
  rxok_iff : s.rxok = true ↔ s.rxcode = .ready
  busy_iff : s.busy = true ↔ s.pending.isSome = true
  err_iff : s.err = false ↔ s.ecode = .none
  mem_wf : s.mem.wf
  mem_inside : ∀ c ∈ s.mem, c.1 < s.cap

/-- R46 I3: the receiver window starts at the queue's head. It holds once the boot RXDONE has run
(R282), until reset is applied. -/
def State.Booted (s : State) : Prop := s.wstart = s.qhead

/-- The queue's contents, oldest first (20_memory.md R64). -/
def State.queued (s : State) : List Byte :=
  (List.range s.qcount).map (fun k => s.byteAt ((s.qhead + k) % s.cap))

/-- The byte read as byte k of the field at offset i of view v: the k-th access of the command, at the
exact sum `p + i + k` reduced only by CAP (R61, R104). -/
def State.fieldByte (s : State) (v : View) (i k : Nat) : Byte :=
  s.memRead (s.phys v (s.p.toNat + i + k)) k

end Sys2Proof.Machine

namespace Sys2Proof

/-- The duties of R201 on the predicates: `PredStart` is false only on a definite mismatch, so a window
whose continuation it accepts is accepted itself (a); `PredLen`, once the window holds the complete
frame, stays true when bytes follow (b). A model takes them as assumptions; the block checks nothing. -/
structure Params.Duties (P : Params) : Prop where
  start_optimistic : ∀ b c, P.predStart (b ++ c) = true → P.predStart b = true
  start_empty : P.predStart [] = true
  len_monotone : ∀ b c, P.predLen b = true → P.predLen (b ++ c) = true

/-- The commands that write RDATA: GET, WRAP and CRC (10_state.md R40). -/
def Opcode.writesRdata : Opcode → Bool
  | .getu8 | .geti8 | .getu16 | .geti16 | .getu32 | .geti32 | .getf32 | .getbool | .wrap | .crc => true
  | .setu8 | .seti8 | .setu16 | .seti16 | .setu32 | .seti32 | .setf32 | .setbool
  | .rxinc | .rxall | .rxdone => false

/-- The commands that write storage: SET (41_transcoder_set.md R150). -/
def Opcode.writesStorage : Opcode → Bool
  | .setu8 | .seti8 | .setu16 | .seti16 | .setu32 | .seti32 | .setf32 | .setbool => true
  | .getu8 | .geti8 | .getu16 | .geti16 | .getu32 | .geti32 | .getf32 | .getbool | .wrap | .crc
  | .rxinc | .rxall | .rxdone => false

/-- The receive commands and RXDONE (43_receiver.md R200). -/
def Opcode.isReceiver : Opcode → Bool
  | .rxinc | .rxall | .rxdone => true
  | .getu8 | .geti8 | .getu16 | .geti16 | .getu32 | .geti32 | .getf32 | .getbool
  | .setu8 | .seti8 | .setu16 | .seti16 | .setu32 | .seti32 | .setf32 | .setbool | .wrap | .crc => false

end Sys2Proof
end

