-- ==== Sys2Proof/Certificates/Slice0/Obligations.lean ====
section
/-! DEFINITION. Statements for the provers. Each docstring names the rules of spec/ it rests on. Where a
statement mentions `draws`, `times` or `source` (the model's own fields), it holds for every value of them. -/

open Sys2Proof Sys2Proof.Machine

/-! ## Encoding (30_encoding.md) -/

/-- The words of 95_test_vectors.md 3.1 and R101 decode as the table says; the illegal ones do not decode. -/
def Obligations.SpecWordsDecode : Prop :=
  decode 0x0C000002 = .ok (.getu16 .window 2) ∧ decode 0x22E00003 = .ok (.getbool .aux 7 3) ∧
  decode 0x48000008 = .ok (.crc .window 8) ∧ decode 0x60000008 = .ok (.rxinc 8) ∧
  decode 0x6000FFFF = .ok (.rxinc 65535) ∧ decode 0x68000000 = .ok .rxdone ∧
  decode 0x44000000 = .ok .wrap ∧ decode 0x36000000 = .ok (.setu32 .aux 0) ∧
  decode 0x64000000 = .ok .rxall ∧ decode 0x40E00004 = .ok (.setbool .window 7 4) ∧
  ∀ w ∈ ([0x00000000, 0x04200000, 0x68000001, 0x62000000, 0x4C000000, 0x05000000, 0x04010000,
      0x44000003, 0xFC000000, 0x24E00000] : List Word), ∃ r, decode w = .error r

/-- Decoding the word of a well-formed command gives the command back, with every operand at every value
(R90, R97, R100). -/
def Obligations.DecodeOfEncode : Prop :=
  ∀ i : Instr, i.wf = true → decode (encode i) = .ok i

/-- A word that decodes is the word of its command, and the command is well formed: each command has one
encoding per choice of its used fields (R96). -/
def Obligations.EncodeOfDecode : Prop :=
  ∀ (w : Word) (i : Instr), decode w = .ok i → i.wf = true ∧ encode i = w

/-- `Decode` is the loop over the rows of the opcode map (R97, R100): the row whose match equals the masked
word gives its command with the word's fields; where no row matches, the word is illegal. -/
def Obligations.DecodeIsTheTableLoop : Prop :=
  ∀ w : Word,
    (∀ op : Opcode, w &&& op.maskWord = op.matchWord →
      decode w = .ok (op.build (View.ofBit (w.extractLsb' 25 1)) (w.extractLsb' 21 3).toNat
        (w.extractLsb' 0 16).toNat)) ∧
    ((∀ op : Opcode, w &&& op.maskWord ≠ op.matchWord) → ∃ r, decode w = .error r)

/-- A word is illegal exactly when its opcode is unassigned, a reserved bit is 1, or a field its command
does not use is nonzero (R98). -/
def Obligations.IllegalWordsExactly : Prop :=
  ∀ w : Word, (∃ r, decode w = .error r) ↔
    ((w.extractLsb' 26 6).toNat = 0x00
      ∨ (0x13 ≤ (w.extractLsb' 26 6).toNat ∧ (w.extractLsb' 26 6).toNat ≤ 0x17)
      ∨ 0x1B ≤ (w.extractLsb' 26 6).toNat)
    ∨ w.getLsbD 24 = true ∨ w.extractLsb' 16 5 ≠ 0#5
    ∨ ((w.extractLsb' 26 6).toNat ∈ [0x11, 0x18, 0x19, 0x1A] ∧ w.getLsbD 25 = true)
    ∨ ((w.extractLsb' 26 6).toNat ∉ [0x08, 0x10] ∧ w.extractLsb' 21 3 ≠ 0#3)
    ∨ ((w.extractLsb' 26 6).toNat ∈ [0x11, 0x19, 0x1A] ∧ w.extractLsb' 0 16 ≠ 0#16)

/-- The assembler's encoding, `(OPC << 26) | (v << 25) | (b << 21) | i` (R101), as a number. -/
def Obligations.EncodeIsTheShiftFormula : Prop :=
  ∀ i : Instr, i.wf = true →
    (encode i).toNat = i.opcode.code.toNat * 2 ^ 26 + i.view.bit.toNat * 2 ^ 25 + i.bitNum * 2 ^ 21 + i.imm

/-! ## The agents' steps (00_scope.md R4, 10_state.md R41 to R44, 20_memory.md R66) -/

/-- The Engine step runs the command that PENDING decodes to: it is `exec` of that command, and where that
goes on, PENDING and BUSY are then cleared (R41, R100); around it the step only takes the turn. -/
def Obligations.EngineTurnRunsTheDecodedCommand : Prop :=
  ∀ (s : State) (w : Word) (i : Instr), s.nextTurn = .engine → s.pending = some w → decode w = .ok i →
    step s =
      match exec i { s with sched := s.sched.tail } with
      | .next t => .next { t with pending := none, busy := false }
      | .fault f => .fault f
      | .refused r => .refused r

/-- An illegal command word raises ILLEGAL_CMD: ERR and ECODE are recorded if ERR was 0, PENDING and BUSY
are cleared, and nothing else changes (R252, R255, R256). -/
def Obligations.IllegalCommandOnlyRecordsTheError : Prop :=
  ∀ (s : State) (w : Word) (r : Illegal), s.nextTurn = .engine → s.pending = some w → decode w = .error r →
    step s = .next { s with
      sched := s.sched.tail
      pending := none
      busy := false
      err := true
      ecode := if s.err then s.ecode else .illegalCmd }

/-- A Host turn runs the Host's next statement (30_encoding.md R102): a write is a register write, a read
keeps its value as the statement's result, `wait` stays until STATUS bit 0 reads 0. -/
def Obligations.HostTurnRunsItsStatement : Prop :=
  ∀ (s : State) (rest : List HostStmt), s.nextTurn = .host →
    (∀ off v, s.prog = .wr off v :: rest →
      step s = .next { s.popTurn.hostWrite off v with prog := rest }) ∧
    (∀ off, s.prog = .rd off :: rest →
      ∃ d, step s = .next { s with
        sched := s.sched.tail
        prog := rest
        results := s.readValue (portReg off) :: s.results
        draws := d }) ∧
    (s.prog = .wait :: rest →
      ∃ d, step s = .next { s with
        sched := s.sched.tail
        prog := if s.busy then .wait :: rest else rest
        draws := d })

/-- A Host write while BUSY = 0, by slot `o[5:2]` (R42). -/
def Obligations.HostWriteWhileIdle : Prop :=
  ∀ (s : State) (off : BitVec 6) (v : Word), s.busy = false →
    (off.toNat / 4 = 0x0 → s.hostWrite off v = { s with pending := some v, busy := true }) ∧
    (off.toNat / 4 = 0x1 → s.hostWrite off v =
      if v.getLsbD 8 then { s with err := false, ecode := .none } else s) ∧
    (off.toNat / 4 = 0x2 → s.hostWrite off v = { s with p := v.extractLsb' 0 16 }) ∧
    (off.toNat / 4 = 0x3 → s.hostWrite off v = { s with wdata := v }) ∧
    (off.toNat / 4 = 0x5 → s.hostWrite off v = { s with xstart := v.toNat % s.cap }) ∧
    (off.toNat / 4 ∉ [0x0, 0x1, 0x2, 0x3, 0x5] → s.hostWrite off v = s)

/-- A Host write while BUSY = 1, to any offset: it is dropped, raises BUSY_WRITE, and leaves the pending
command as it is (R43, R254). -/
def Obligations.HostWriteWhileBusyIsDropped : Prop :=
  ∀ (s : State) (off : BitVec 6) (v : Word), s.busy = true →
    s.hostWrite off v = { s with err := true, ecode := if s.err then s.ecode else .busyWrite }

/-- What a Host read returns while BUSY = 0, by slot, and that it changes nothing (R20 to R31, R44, R71). -/
def Obligations.HostReadWhileIdle : Prop :=
  ∀ (s : State) (off : BitVec 6), s.Inv → s.busy = false →
    (off.toNat / 4 = 0x0 → s.readValue (portReg off) = 0#32) ∧
    (off.toNat / 4 = 0x1 → s.readValue (portReg off) = s.status) ∧
    (off.toNat / 4 = 0x2 → (s.readValue (portReg off)).toNat = s.p.toNat) ∧
    (off.toNat / 4 = 0x3 → s.readValue (portReg off) = s.wdata) ∧
    (off.toNat / 4 = 0x4 → s.readValue (portReg off) = s.rdata) ∧
    (off.toNat / 4 = 0x5 → (s.readValue (portReg off)).toNat = s.xstart) ∧
    (off.toNat / 4 = 0x6 → (s.readValue (portReg off)).toNat = s.wstart) ∧
    (off.toNat / 4 = 0x7 → (s.readValue (portReg off)).toNat = s.wlen) ∧
    (off.toNat / 4 = 0x8 → s.readValue (portReg off) = s.rxtime) ∧
    (off.toNat / 4 = 0x9 → (s.readValue (portReg off)).toNat = s.cap) ∧
    (0xA ≤ off.toNat / 4 → s.readValue (portReg off) = 0#32) ∧
    s.afterRead (portReg off) = s

/-- What a Host read returns while BUSY = 1 (R44): STATUS gives BUSY = 1 and the current ERR and ECODE,
its reserved bits 0; every other offset gives four free bytes; and a read changes nothing of the block.
(That CMD and the reserved offsets also read as draws then is the model's reading of "any other register",
log 12.) -/
def Obligations.HostReadWhileBusy : Prop :=
  ∀ (s : State) (off : BitVec 6), s.busy = true →
    (off.toNat / 4 = 0x1 →
      (s.readValue (portReg off)).getLsbD 0 = true ∧
      (s.readValue (portReg off)).getLsbD 7 = false ∧
      (s.readValue (portReg off)).getLsbD 8 = s.err ∧
      (s.readValue (portReg off)).extractLsb' 9 3 = s.ecode.code ∧
      (s.readValue (portReg off)).extractLsb' 12 20 = 0#20) ∧
    (off.toNat / 4 ≠ 0x1 → (s.readValue (portReg off)).toNat =
      16777216 * (Config.draw8 s.source s.draws).toNat + 65536 * (Config.draw8 s.source (s.draws + 1)).toNat
        + 256 * (Config.draw8 s.source (s.draws + 2)).toNat + (Config.draw8 s.source (s.draws + 3)).toNat) ∧
    ∃ d, s.draws < d ∧ s.afterRead (portReg off) = { s with draws := d }

/-- The fields of STATUS at their bits, with the codes of PHASE, RXCODE and ECODE (R23, R35, R36, R251). -/
def Obligations.StatusFieldsAtTheirBits : Prop :=
  ∀ s : State, s.status.toNat =
    (if s.busy then 1 else 0) + (if s.rxok then 2 else 0)
      + 4 * (match s.phase with | .searching => 0 | .accumulating => 1 | .validating => 2 | .ready => 3)
      + 16 * (match s.rxcode with | .none => 0 | .ready => 1 | .nodata => 2 | .incomplete => 3 | .startFail => 4)
      + (if s.err then 256 else 0)
      + 512 * (match s.ecode with | .none => 0 | .illegalCmd => 1 | .crcRange => 2 | .busyWrite => 3)

/-- A Producer turn (20_memory.md R66): into a queue that is not full it appends the Producer's next byte,
byte and count at once; with the queue full it does nothing and the Producer keeps the byte (log 9). -/
def Obligations.ProducerTurnAppendsOrWaits : Prop :=
  ∀ (s : State) (b : Byte) (rest : List Byte), s.nextTurn = .producer → s.incoming = b :: rest →
    (s.qcount < s.cap → ∃ t, step s = .next t ∧
      t = { s with
        sched := s.sched.tail, incoming := rest, mem := t.mem, qcount := s.qcount + 1 } ∧
      ∀ a, t.byteAt a = if a = (s.qhead + s.qcount) % s.cap then b else s.byteAt a) ∧
    (s.cap ≤ s.qcount → step s = .next { s with sched := s.sched.tail })

/-- The queue is a FIFO of its stored bytes (20_memory.md R64 to R66): an append adds one byte at the end
and leaves the others, a consume removes bytes at the head. -/
def Obligations.QueueIsAFifo : Prop :=
  ∀ s : State, s.qhead < s.cap → s.qcount ≤ s.cap →
    (∀ b, s.qcount < s.cap → (s.enqueue b).queued = s.queued ++ [b]) ∧
    (∀ n, n ≤ s.qcount → (s.consume n).queued = s.queued.drop n)

/-- A storage read inside the queued region gives the stored byte, outside it a free byte (R62). -/
def Obligations.StorageReadInsideAndOutsideTheQueue : Prop :=
  ∀ (s : State) (a k : Nat),
    ((a + s.cap - s.qhead) % s.cap < s.qcount → s.memRead a k = s.byteAt a) ∧
    (s.qcount ≤ (a + s.cap - s.qhead) % s.cap → s.memRead a k = Config.draw8 s.source (s.draws + k))

/-! ## Field readers (40_transcoder_get.md) -/

/-- The unsigned readers and GETF32 complete, with the big-endian value of their bytes (R121, R123, R125,
R127). -/
def Obligations.UnsignedReadsAreBigEndian : Prop :=
  ∀ (s : State) (v : View) (i : Nat),
    (∃ t, exec (.getu8 v i) s = .next t ∧ t.rdata.toNat = (s.fieldByte v i 0).toNat) ∧
    (∃ t, exec (.getu16 v i) s = .next t ∧
      t.rdata.toNat = 256 * (s.fieldByte v i 0).toNat + (s.fieldByte v i 1).toNat) ∧
    (∃ t, exec (.getu32 v i) s = .next t ∧
      t.rdata.toNat = 16777216 * (s.fieldByte v i 0).toNat + 65536 * (s.fieldByte v i 1).toNat
        + 256 * (s.fieldByte v i 2).toNat + (s.fieldByte v i 3).toNat) ∧
    (∃ t, exec (.getf32 v i) s = .next t ∧
      t.rdata.toNat = 16777216 * (s.fieldByte v i 0).toNat + 65536 * (s.fieldByte v i 1).toNat
        + 256 * (s.fieldByte v i 2).toNat + (s.fieldByte v i 3).toNat)

/-- The signed readers complete: RDATA, read as two's complement, is the two's-complement reading of the
field's own width (R122, R124, R126; GETI32 is a true 32-bit value, 90_conflicts.md C2). -/
def Obligations.SignedReadsKeepTheSignedValue : Prop :=
  ∀ (s : State) (v : View) (i : Nat),
    (∃ t, exec (.geti8 v i) s = .next t ∧
      t.rdata.toInt = Int.bmod (s.fieldByte v i 0).toNat (2 ^ 8)) ∧
    (∃ t, exec (.geti16 v i) s = .next t ∧
      t.rdata.toInt = Int.bmod (256 * (s.fieldByte v i 0).toNat + (s.fieldByte v i 1).toNat) (2 ^ 16)) ∧
    (∃ t, exec (.geti32 v i) s = .next t ∧
      t.rdata.toInt = Int.bmod (16777216 * (s.fieldByte v i 0).toNat + 65536 * (s.fieldByte v i 1).toNat
        + 256 * (s.fieldByte v i 2).toNat + (s.fieldByte v i 3).toNat) (2 ^ 32))

/-- GETBOOL completes with bit b of the byte, bit 0 the least significant (R128). -/
def Obligations.GetBoolReadsOneBit : Prop :=
  ∀ (s : State) (v : View) (b i : Nat), b < 8 →
    ∃ t, exec (.getbool v b i) s = .next t ∧ t.rdata.toNat = (s.fieldByte v i 0).toNat / 2 ^ b % 2

/-- Every GET writes only RDATA (and the model's count of free bytes): registers, STATUS, window, queue and
every storage byte are as before (R120). -/
def Obligations.GetFrame : Prop :=
  ∀ (i : Instr) (s t : State),
    i.opcode ∈ [Opcode.getu8, .geti8, .getu16, .geti16, .getu32, .geti32, .getf32, .getbool] →
    exec i s = .next t →
    t = { s with rdata := t.rdata, draws := t.draws } ∧ ∀ a, t.byteAt a = s.byteAt a

/-! ## Field writers (41_transcoder_set.md) -/

/-- The writers of whole bytes complete (R150 to R157): for a field of W bytes, byte k of WDATA's low W
bytes, most significant first, stands at its own translated index, the last write winning where two of them
meet (20_memory.md R72); every other storage byte and everything but storage is as before. -/
def Obligations.WritersStoreBigEndian : Prop :=
  ∀ (s : State) (v : View) (i : Nat) (c : Instr) (W : Nat),
    (c, W) ∈ [(Instr.setu8 v i, 1), (.seti8 v i, 1), (.setu16 v i, 2), (.seti16 v i, 2), (.setu32 v i, 4),
      (.seti32 v i, 4), (.setf32 v i, 4)] →
    ∃ t, exec c s = .next t ∧ t = { s with mem := t.mem } ∧
      (∀ k, k < W →
        (∀ j, k < j → j < W → s.phys v (s.p.toNat + i + j) ≠ s.phys v (s.p.toNat + i + k)) →
        (t.byteAt (s.phys v (s.p.toNat + i + k))).toNat = s.wdata.toNat / 256 ^ (W - 1 - k) % 256) ∧
      (∀ a, (∀ k, k < W → a ≠ s.phys v (s.p.toNat + i + k)) → t.byteAt a = s.byteAt a)

/-- SETBOOL completes (R158): bit b of the byte becomes WDATA[0], its other bits are those it read, every
other storage byte is as before, and nothing but storage (and the model's count of free bytes) changes. -/
def Obligations.SetBoolWritesOneBit : Prop :=
  ∀ (s : State) (v : View) (b i : Nat), b < 8 →
    ∃ t, exec (.setbool v b i) s = .next t ∧ t = { s with mem := t.mem, draws := t.draws } ∧
      (∀ n, n < 8 → (t.byteAt (s.phys v (s.p.toNat + i))).getLsbD n =
        if n = b then s.wdata.getLsbD 0 else (s.fieldByte v i 0).getLsbD n) ∧
      (∀ a, a ≠ s.phys v (s.p.toNat + i) → t.byteAt a = s.byteAt a)

/-- What a SET stored, the GET of the same width, view, P and offset returns, where every addressed byte is
queued and CAP is not smaller than the width, across the wrap point too (40_transcoder_get.md R129). -/
def Obligations.RoundTripThroughStorage : Prop :=
  ∀ (s : State) (v : View) (i W : Nat) (set get : Instr) (expected : Int),
    (set, get, W, expected) ∈
      [(Instr.setu8 v i, Instr.getu8 v i, 1, ((s.wdata.toNat % 2 ^ 8 : Nat) : Int)),
       (.seti8 v i, .geti8 v i, 1, Int.bmod s.wdata.toNat (2 ^ 8)),
       (.setu16 v i, .getu16 v i, 2, ((s.wdata.toNat % 2 ^ 16 : Nat) : Int)),
       (.seti16 v i, .geti16 v i, 2, Int.bmod s.wdata.toNat (2 ^ 16)),
       (.setu32 v i, .getu32 v i, 4, s.wdata.toInt),
       (.seti32 v i, .geti32 v i, 4, s.wdata.toInt),
       (.setf32 v i, .getf32 v i, 4, s.wdata.toInt)] →
    W ≤ s.cap → (∀ k, k < W → s.inQueue (s.phys v (s.p.toNat + i + k)) = true) →
    ∃ t u, exec set s = .next t ∧ exec get t = .next u ∧ u.rdata.toInt = expected

/-- Bit isolation through GETBOOL (40_transcoder_get.md R129): after SETBOOL of bit b, GETBOOL of bit b gives
WDATA[0], and of any other bit what it gave before. -/
def Obligations.GetBoolAfterSetBool : Prop :=
  ∀ (s : State) (v : View) (b c i : Nat), b < 8 → c < 8 → s.inQueue (s.phys v (s.p.toNat + i)) = true →
    ∃ t u, exec (.setbool v b i) s = .next t ∧ exec (.getbool v c i) t = .next u ∧
      u.rdata.toNat =
        if c = b then s.wdata.toNat % 2
        else (s.byteAt (s.phys v (s.p.toNat + i))).toNat / 2 ^ c % 2

/-- The laws of the writers, for a queued byte (R160): (a) SETBOOL changes no other bit; (b) true then false
leaves the byte with bit b cleared, which is the original byte exactly when its bit b was 0; (c) the value
the bit already holds changes nothing; (d) signed and unsigned writers of a width leave equal storage. -/
def Obligations.WritersLaws : Prop :=
  ∀ (s : State) (v : View) (b i : Nat), b < 8 → s.inQueue (s.phys v (s.p.toNat + i)) = true →
    (∀ t, exec (.setbool v b i) s = .next t → ∀ a n, n < 8 → n ≠ b →
      (t.byteAt a).getLsbD n = (s.byteAt a).getLsbD n) ∧
    (∀ t u, exec (.setbool v b i) (s.setWdata 1) = .next t →
      exec (.setbool v b i) (t.setWdata 0) = .next u →
      u.byteAt (s.phys v (s.p.toNat + i)) = s.byteAt (s.phys v (s.p.toNat + i)) &&& ~~~(1#8 <<< b) ∧
      (u.byteAt (s.phys v (s.p.toNat + i)) = s.byteAt (s.phys v (s.p.toNat + i)) ↔
        (s.byteAt (s.phys v (s.p.toNat + i))).getLsbD b = false)) ∧
    (∀ t, exec (.setbool v b i) s = .next t →
      s.wdata.getLsbD 0 = (s.byteAt (s.phys v (s.p.toNat + i))).getLsbD b →
      ∀ a, t.byteAt a = s.byteAt a) ∧
    (∀ c d, (c, d) ∈ [(Instr.setu8 v i, Instr.seti8 v i), (.setu16 v i, .seti16 v i),
        (.setu32 v i, .seti32 v i)] →
      ∀ t u, exec c s = .next t → exec d s = .next u → ∀ a, t.byteAt a = u.byteAt a)

/-! ## WRAP and CRC (42_wrap_crc.md) -/

/-- WRAP completes with WDATA mod CAP, in [0, CAP), and writes nothing else (R180). -/
def Obligations.WrapReducesModCapacity : Prop :=
  ∀ s : State, ∃ t, exec .wrap s = .next t ∧ t = { s with rdata := t.rdata } ∧
    t.rdata.toNat = s.wdata.toNat % s.cap ∧ t.rdata.toNat < s.cap

/-- CRC over a well-formed range completes (R181, R182): RDATA is the engine's result over the range's
words, each the big-endian value of its four bytes, from reset through one update per word to finalize; and
nothing else (but the model's count of free bytes) changes. -/
def Obligations.CrcOverWholeWords : Prop :=
  ∀ (s : State) (v : View) (e : Nat), s.p.toNat ≤ e → (e - s.p.toNat) % 4 = 0 →
    ∃ (t : State) (ws : List Word), exec (.crc v e) s = .next t ∧
      4 * ws.length = e - s.p.toNat ∧
      (∀ j, j < ws.length → ∃ w, ws[j]? = some w ∧ w.toNat =
        16777216 * (s.memRead (s.phys v (s.p.toNat + 4 * j)) (4 * j)).toNat
        + 65536 * (s.memRead (s.phys v (s.p.toNat + 4 * j + 1)) (4 * j + 1)).toNat
        + 256 * (s.memRead (s.phys v (s.p.toNat + 4 * j + 2)) (4 * j + 2)).toNat
        + (s.memRead (s.phys v (s.p.toNat + 4 * j + 3)) (4 * j + 3)).toNat) ∧
      t.rdata.toNat = (s.params.crc.final (ws.foldl s.params.crc.update s.params.crc.init)).toNat ∧
      t = { s with rdata := t.rdata, draws := t.draws } ∧ ∀ a, t.byteAt a = s.byteAt a

/-- CRC raises CRC_RANGE where the range ends before it starts or is not a whole number of words, and then
changes ERR and ECODE only (R253, R255, R256). -/
def Obligations.CrcRangeError : Prop :=
  ∀ (s : State) (v : View) (e : Nat), e < s.p.toNat ∨ (e - s.p.toNat) % 4 ≠ 0 →
    exec (.crc v e) s = .next { s with err := true, ecode := if s.err then s.ecode else .crcRange }

/-- The CRC depends only on the bytes of the range, not on where it lies (R183): two ranges of one length
with equal bytes, in any two states of instances with the same engine, give equal results. -/
def Obligations.CrcDependsOnlyOnTheBytes : Prop :=
  ∀ (s s' t t' : State) (v v' : View) (e e' : Nat),
    s.p.toNat ≤ e → s'.p.toNat ≤ e' → e - s.p.toNat = e' - s'.p.toNat → (e - s.p.toNat) % 4 = 0 →
    s'.collab = s.collab →
    (∀ k, k < e - s.p.toNat →
      s.memRead (s.phys v (s.p.toNat + k)) k = s'.memRead (s'.phys v' (s'.p.toNat + k)) k) →
    exec (.crc v e) s = .next t → exec (.crc v' e') s' = .next t' → t'.rdata = t.rdata

/-! ## The receiver (43_receiver.md) -/

/-- In READY, RXINC and RXALL report the held frame again and change nothing else (R206, R207). -/
def Obligations.HeldFrameIsReportedAgain : Prop :=
  ∀ (s : State) (n : Nat), s.phase = .ready →
    exec (.rxinc n) s = .next { s with rxok := true, rxcode := .ready } ∧
    exec .rxall s = .next { s with rxok := true, rxcode := .ready }

/-- Outside READY, with no new byte to examine, RXINC and RXALL report NODATA and change nothing else
(R205 to R207). -/
def Obligations.NoNewByteIsNodata : Prop :=
  ∀ (s : State) (n : Nat), s.phase ≠ .ready → s.wlen ≤ s.qcount →
    ((n = 0 ∨ s.wlen = s.qcount) → exec (.rxinc n) s = .next { s with rxok := false, rxcode := .nodata }) ∧
    (s.wlen = s.qcount → exec .rxall s = .next { s with rxok := false, rxcode := .nodata })

/-- Outside READY, with a new byte, RXINC completes in one of three ways (R206, the rows of R209). -/
def Obligations.RxincEndsInOneOfThreeWays : Prop :=
  ∀ (s : State) (n : Nat), s.phase ≠ .ready → 0 < n → s.wlen < s.qcount →
    ∃ t, exec (.rxinc n) s = .next t ∧
      ((t.phase = .ready ∧ t.rxok = true ∧ t.rxcode = .ready ∧ 1 ≤ t.wlen) ∨
       (t.phase = .accumulating ∧ t.rxok = false ∧ t.rxcode = .incomplete ∧ 1 ≤ t.wlen) ∨
       (t.phase = .searching ∧ t.rxok = false ∧ t.rxcode = .incomplete ∧ t.wlen = 0))

/-- Outside READY, with a new byte, RXALL completes in one of three ways (R207, the rows of R209). -/
def Obligations.RxallEndsInOneOfThreeWays : Prop :=
  ∀ s : State, s.phase ≠ .ready → s.wlen < s.qcount →
    ∃ t, exec .rxall s = .next t ∧ s.wlen < t.wlen ∧ t.wlen ≤ s.qcount ∧
      ((t.phase = .searching ∧ t.rxok = false ∧ t.rxcode = .startFail) ∨
       (t.phase = .ready ∧ t.rxok = true ∧ t.rxcode = .ready) ∨
       (t.phase = .accumulating ∧ t.rxok = false ∧ t.rxcode = .incomplete ∧ t.wlen = s.qcount))

/-- What the receive commands leave (R206, R207): all registers but the receiver's, and every storage byte;
RXALL leaves W_START and the queue too. -/
def Obligations.ReceiveFrame : Prop :=
  ∀ (s t : State),
    (∀ n, exec (.rxinc n) s = .next t →
      t = { s with
        wstart := t.wstart, wlen := t.wlen, phase := t.phase, rxtime := t.rxtime, rxok := t.rxok
        rxcode := t.rxcode, qhead := t.qhead, qcount := t.qcount, draws := t.draws, times := t.times } ∧
      ∀ a, t.byteAt a = s.byteAt a) ∧
    (exec .rxall s = .next t →
      t = { s with
        wlen := t.wlen, phase := t.phase, rxtime := t.rxtime, rxok := t.rxok, rxcode := t.rxcode
        draws := t.draws, times := t.times } ∧
      ∀ a, t.byteAt a = s.byteAt a)

/-- RXINC moves window and queue together (R203, R205, R210, R211): with g bytes grown and k skipped, at
most the budget is grown, at most the window and the grown bytes are skipped, every skip consumes one byte
and advances W_START and q.HEAD by one. -/
def Obligations.RxincMovesWindowAndQueueTogether : Prop :=
  ∀ (s t : State) (n : Nat), s.Inv → exec (.rxinc n) s = .next t →
    ∃ g k, g ≤ min n (s.qcount - s.wlen) ∧ k ≤ s.wlen + g ∧
      t.wlen + k = s.wlen + g ∧ t.qcount + k = s.qcount ∧
      t.wstart = (s.wstart + k) % s.cap ∧ t.qhead = (s.qhead + k) % s.cap

/-- No frame is accepted unchecked (R206, R35): where RXINC, from a booted receiver that held no frame,
ends READY, the window it leaves passes all three predicates; where it ends in ACCUMULATING, the window
passes the start check and is still short. -/
def Obligations.RxincAcceptsOnlyCheckedFrames : Prop :=
  ∀ (s t : State) (n : Nat), s.Inv → s.Booted → s.phase ≠ .ready → 0 < n → s.wlen < s.qcount →
    exec (.rxinc n) s = .next t →
    (t.phase = .ready → s.params.predStart t.win = true ∧ s.params.predLen t.win = true ∧
      s.params.predCrc t.win = true) ∧
    (t.phase = .accumulating → s.params.predStart t.win = true ∧ s.params.predLen t.win = false)

/-- Every byte RXINC skips began a candidate that failed (R203, R206): at some length within the bytes examined,
the start check, or the CRC check with its length check satisfied. (That a well-formed frame among the skipped
bytes would have been accepted is not said: a candidate can be longer than its frame when it is examined.) -/
def Obligations.RxincSkipsOnlyFailedCandidates : Prop :=
  ∀ (s t : State) (n : Nat), s.Inv → s.Booted → exec (.rxinc n) s = .next t →
    ∀ j, j < s.qcount - t.qcount → ∃ l, 1 ≤ l ∧ j + l ≤ s.wlen + min n (s.qcount - s.wlen) ∧
      (s.params.predStart ((s.queued.drop j).take l) = false ∨
       (s.params.predStart ((s.queued.drop j).take l) = true ∧
        s.params.predLen ((s.queued.drop j).take l) = true ∧
        s.params.predCrc ((s.queued.drop j).take l) = false))

/-- RXALL accepts on the start and length checks alone, and reports START_FAIL only on a start mismatch
(R207). It stops at the first length that satisfies PredLen: every shorter window it grew through passed
PredStart and failed PredLen, so that the bytes of a following frame stay out of the window. -/
def Obligations.RxallAcceptsOnStartAndLength : Prop :=
  ∀ (s t : State), s.Inv → s.Booted → s.phase ≠ .ready → s.wlen < s.qcount → exec .rxall s = .next t →
    (t.phase = .ready → s.params.predStart t.win = true ∧ s.params.predLen t.win = true) ∧
    (t.phase = .accumulating → s.params.predStart t.win = true ∧ s.params.predLen t.win = false) ∧
    (t.rxcode = .startFail → s.params.predStart t.win = false) ∧
    (∀ l, s.wlen < l → l < t.wlen →
      s.params.predStart (s.queued.take l) = true ∧ s.params.predLen (s.queued.take l) = false)

/-- RXDONE completes, in every phase (R208): the window's bytes are consumed, the window is empty at the
queue's new head, RX_TIME and everything else are as before. -/
def Obligations.RxdoneDrainsTheWindow : Prop :=
  ∀ s : State, s.wlen ≤ s.qcount →
    exec .rxdone s = .next { s with
      qhead := (s.qhead + s.wlen) % s.cap
      qcount := s.qcount - s.wlen
      wstart := (s.qhead + s.wlen) % s.cap
      wlen := 0
      phase := .searching
      rxok := false
      rxcode := .none }

/-- The model's only stop, its own choice (log 10): where the window claims more bytes than the queue holds,
which R46 says never happens, RXINC and RXALL outside READY and RXDONE in any phase stop by name. -/
def Obligations.WindowBeyondTheQueueStops : Prop :=
  ∀ (s : State) (n : Nat), s.qcount < s.wlen →
    exec .rxdone s = .fault .windowBeyondQueue ∧
    (s.phase ≠ .ready → exec (.rxinc n) s = .fault .windowBeyondQueue ∧
      exec .rxall s = .fault .windowBeyondQueue)

/-- TIME is sampled only where a receive command adds the first byte of a candidate frame, and RX_TIME is the
latest sample (60_exceptions.md R266; 43_receiver.md R202; reset writes 0, R47). No other command, and no step of
another agent, samples TIME or writes RX_TIME. RXALL takes one sample where it adds a byte to an empty
window, none otherwise; an RXINC with a budget of one byte likewise. RXINC takes at least one where it adds a byte
to an empty window, none where the window held a byte and at most its W_LEN bytes were skipped, and at most one
more than it skips bytes: its `Grow()` samples exactly where the window is empty, and a scan never. -/
def Obligations.TimestampIsTheLatestSample : Prop :=
  (∀ (i : Instr) (s t : State), exec i s = .next t →
    s.times ≤ t.times ∧
    (t.times = s.times → t.rxtime = s.rxtime) ∧
    (s.times < t.times →
      t.rxtime = Config.time s.source (t.times - 1) ∧ (i.opcode = .rxinc ∨ i.opcode = .rxall))) ∧
  (∀ s t : State, exec .rxall s = .next t →
    t.times = if s.wlen = 0 ∧ s.wlen < t.wlen then s.times + 1 else s.times) ∧
  (∀ (s t : State) (n : Nat), exec (.rxinc n) s = .next t →
    (s.phase ≠ .ready → s.wlen = 0 → 0 < n → 0 < s.qcount → s.times < t.times) ∧
    (1 ≤ s.wlen → s.qcount - t.qcount ≤ s.wlen → t.times = s.times ∧ t.rxtime = s.rxtime) ∧
    t.times ≤ s.times + 1 + (s.qcount - t.qcount)) ∧
  (∀ s t : State, exec (.rxinc 1) s = .next t →
    t.times = if s.phase ≠ .ready ∧ s.wlen = 0 ∧ 0 < s.qcount then s.times + 1 else s.times) ∧
  (∀ s : State,
    s.grow.times = (if s.wlen = 0 then s.times + 1 else s.times) ∧
    s.grow.rxtime = (if s.wlen = 0 then Config.time s.source s.times else s.rxtime)) ∧
  (∀ (n : Nat) (s : State), (scan n s).2.times = s.times ∧ (scan n s).2.rxtime = s.rxtime) ∧
  (∀ s t : State, step s = .next t → t.times ≠ s.times ∨ (t.rxtime ≠ s.rxtime ∧ s.nextTurn ≠ .reset) →
    s.nextTurn = .engine ∧
      ∃ w i, s.pending = some w ∧ decode w = .ok i ∧ (i.opcode = .rxinc ∨ i.opcode = .rxall))

/-- Splitting a receive over two commands does not change the frame: RXINC n and then RXINC m leave the
receiver and the queue as RXINC (n + m) from the same state does. For a booted receiver, whose window bytes are
all queued (R32), this is R214's resumability. Before boot a window byte can be a draw; there R214, which takes a
fixed byte stream, says nothing, and the two runs agree only because both take their draws from the model's one
counter, so that equal accesses get equal draws (the model's choice, log 3, 13, 24). -/
def Obligations.RxincSplitsAcrossCalls : Prop :=
  ∀ (s t1 t2 t : State) (n m : Nat),
    exec (.rxinc n) s = .next t1 → exec (.rxinc m) t1 = .next t2 → exec (.rxinc (n + m)) s = .next t →
    t2.wstart = t.wstart ∧ t2.wlen = t.wlen ∧ t2.phase = t.phase ∧ t2.qhead = t.qhead ∧
      t2.qcount = t.qcount ∧ t2.mem = t.mem

/-- Nor does the moment at which bytes arrive (R214): bytes appended between the two commands, or all of
them before one command with the budget of both, give the same accepted window and the same queue. -/
def Obligations.RxincDoesNotDependOnArrival : Prop :=
  ∀ (s t1 t2 t : State) (n m : Nat) (bs : List Byte), s.Inv → s.Booted → s.qcount + bs.length ≤ s.cap →
    exec (.rxinc n) s = .next t1 →
    exec (.rxinc m) (bs.foldl (fun u b => u.enqueue b) t1) = .next t2 →
    exec (.rxinc (min n (s.qcount - s.wlen) + m)) (bs.foldl (fun u b => u.enqueue b) s) = .next t →
    t2.wstart = t.wstart ∧ t2.wlen = t.wlen ∧ t2.phase = t.phase ∧ t2.qhead = t.qhead ∧
      t2.qcount = t.qcount ∧ t2.win = t.win

/-- A false start stalls the receiver (70_reset_and_hazards.md R288): with the whole full queue in the
window, every RXINC and RXALL reports NODATA and leaves the receiver as it is, and the Producer has no
step; RXDONE drains the whole window. -/
def Obligations.FullWindowStallsUntilRxdone : Prop :=
  ∀ (s : State) (n : Nat), s.phase ≠ .ready → s.wlen = s.qcount → s.qcount = s.cap →
    exec (.rxinc n) s = .next { s with rxok := false, rxcode := .nodata } ∧
    exec .rxall s = .next { s with rxok := false, rxcode := .nodata } ∧
    s.producerTurn = s ∧
    ∃ t, exec .rxdone s = .next t ∧ t.qcount = 0 ∧ t.wlen = 0 ∧ t.phase = .searching

/-- Repeating RXALL on a window whose start check has failed never succeeds, for predicates that meet their
duty as log 16 reads it (70_reset_and_hazards.md R287, where the first byte is what fails): it only grows the
window, by one byte where there is one. -/
def Obligations.RxallNeverRecoversFromABadStart : Prop :=
  ∀ (s t : State), s.Inv → s.Booted → s.params.Duties → s.phase ≠ .ready →
    s.params.predStart s.win = false → exec .rxall s = .next t →
    t.rxok = false ∧ t.phase ≠ .ready ∧ t.wstart = s.wstart ∧ t.wlen = s.wlen + min 1 (s.qcount - s.wlen) ∧
      s.params.predStart t.win = false

/-! ## Rules about the whole machine -/

/-- The column "written by" of R40, with STATUS's receive fields (R23), the queue and storage: each is
written only by the commands listed, and no command writes what the Host writes, the parameters, the
handshake or what other agents hold. -/
def Obligations.OnlyTheListedCommandsWrite : Prop :=
  ∀ (i : Instr) (s t : State), exec i s = .next t →
    t.p = s.p ∧ t.wdata = s.wdata ∧ t.xstart = s.xstart ∧
    (i.opcode.writesRdata = false → t.rdata = s.rdata) ∧
    (i.opcode.writesStorage = false → ∀ a, t.byteAt a = s.byteAt a) ∧
    (i.opcode ≠ .rxinc → i.opcode ≠ .rxdone →
      t.wstart = s.wstart ∧ t.qhead = s.qhead ∧ t.qcount = s.qcount) ∧
    (i.opcode.isReceiver = false →
      t.wlen = s.wlen ∧ t.phase = s.phase ∧ t.rxok = s.rxok ∧ t.rxcode = s.rxcode) ∧
    (i.opcode ≠ .rxinc → i.opcode ≠ .rxall → t.rxtime = s.rxtime) ∧
    (i.opcode ≠ .crc → t.err = s.err ∧ t.ecode = s.ecode) ∧
    t.cap = s.cap ∧ t.collab = s.collab ∧ t.source = s.source ∧ t.pending = s.pending ∧ t.busy = s.busy ∧
    t.sched = s.sched ∧ t.prog = s.prog ∧ t.results = s.results ∧ t.incoming = s.incoming

/-- RDATA changes only when the Engine runs a GET, a WRAP or a CRC whose range is well formed, or at reset:
the Host cannot write it, and a command that raises an error leaves it (R27). -/
def Obligations.RdataChangesOnlyByResultCommands : Prop :=
  ∀ s t : State, step s = .next t → t.rdata ≠ s.rdata →
    s.nextTurn = .reset ∨
    (s.nextTurn = .engine ∧ ∃ w i, s.pending = some w ∧ decode w = .ok i ∧ i.opcode.writesRdata = true ∧
      ∀ v e, i = .crc v e → s.p.toNat ≤ e ∧ (e - s.p.toNat) % 4 = 0)

/-- ERR goes back to 0 only by a Host write of 1 to STATUS bit 8 while BUSY = 0, or at reset; and while ERR
stays 1, ECODE keeps the first error's code (60_exceptions.md R255, R257, R258). -/
def Obligations.ErrorIsKeptUntilTheHostClearsIt : Prop :=
  ∀ s t : State, step s = .next t → s.err = true → s.nextTurn ≠ .reset →
    (t.err = true ∧ t.ecode = s.ecode) ∨
    (s.nextTurn = .host ∧ s.busy = false ∧ ∃ off v rest, s.prog = .wr off v :: rest ∧
      off.toNat / 4 = 0x1 ∧ v.getLsbD 8 = true ∧ t.err = false ∧ t.ecode = .none)

/-- The parameters are fixed for the life of an instance: no step of any agent, reset among them, changes
CAP or the collaborators (70_reset_and_hazards.md R283). -/
def Obligations.ParametersAreFixed : Prop :=
  ∀ s t : State, step s = .next t → t.cap = s.cap ∧ t.collab = s.collab

/-- An accepted frame is held until RXDONE (R212): from READY, a step that is neither reset nor the Engine
running RXDONE leaves W_START, W_LEN, PHASE, RX_TIME and q.HEAD as they are, changes q.COUNT only by one
appended byte, and changes a window byte only if it is the Engine running a SET. -/
def Obligations.AcceptedFrameIsHeld : Prop :=
  ∀ s t : State, s.Inv → s.Booted → s.phase = .ready → step s = .next t → s.nextTurn ≠ .reset →
    (∀ w, s.nextTurn = .engine → s.pending = some w → decode w ≠ .ok .rxdone) →
    t.wstart = s.wstart ∧ t.wlen = s.wlen ∧ t.phase = .ready ∧ t.rxtime = s.rxtime ∧ t.qhead = s.qhead ∧
    (t.qcount = s.qcount ∨ (s.nextTurn = .producer ∧ t.qcount = s.qcount + 1)) ∧
    ((∀ w i, s.nextTurn = .engine → s.pending = some w → decode w = .ok i → i.opcode.writesStorage = false) →
      ∀ k, k < s.wlen → t.byteAt (s.phys .window k) = s.byteAt (s.phys .window k))

/-- Right after reset the invariant holds (with the queue the model chose, log 6), every block register has
R47's value, and nothing is pending. -/
def Obligations.ResetValuesAndInvariant : Prop :=
  State.reset.Inv ∧ State.reset.p = 0 ∧ State.reset.wdata = 0 ∧ State.reset.rdata = 0 ∧
  State.reset.xstart = 0 ∧ State.reset.wstart = 0 ∧ State.reset.wlen = 0 ∧
  State.reset.phase = .searching ∧ State.reset.rxtime = 0 ∧ State.reset.busy = false ∧
  State.reset.pending = none ∧ State.reset.rxok = false ∧ State.reset.rxcode = .none ∧
  State.reset.err = false ∧ State.reset.ecode = .none ∧ State.reset.status = 0

/-- Reset applied at any time (R47, R280, R281): every block register takes its reset value, a pending
command is discarded and no error is recorded; storage, queue and parameters are untouched. -/
def Obligations.ResetDiscardsThePendingCommand : Prop :=
  ∀ s : State, s.nextTurn = .reset →
    step s = .next { s with
      sched := s.sched.tail
      p := 0, wdata := 0, rdata := 0, xstart := 0, wstart := 0, wlen := 0, phase := .searching, rxtime := 0
      busy := false, pending := none, rxok := false, rxcode := .none, err := false, ecode := .none }

/-- Every step of every agent keeps the invariant (R46 I1, I2, I4; R36, R38, R251; storage canonical and
inside [0, CAP)). -/
def Obligations.EveryStepKeepsTheInvariant : Prop :=
  ∀ s t : State, s.Inv → step s = .next t → t.Inv

/-- From a state with the invariant no step stops the machine: no error traps or stops the block
(60_exceptions.md R250). -/
def Obligations.NoErrorStopsTheBlock : Prop :=
  ∀ s : State, s.Inv → ∃ t, step s = .next t

/-- The boot RXDONE sets W_START to the queue's head (R282), and every step but reset keeps it there (R33,
R46 I3), the Engine being the queue's only consumer. -/
def Obligations.BootEstablishesTheWindowAtTheHead : Prop :=
  (∀ s : State, s.Inv → ∃ t, exec .rxdone s = .next t ∧ t.Booted) ∧
  (∀ s t : State, s.Inv → s.Booted → step s = .next t → s.nextTurn ≠ .reset → t.Booted)

/-- No byte of a booted receiver's window is a draw: each is queued, and the window is its stored bytes in
order (R32). -/
def Obligations.WindowBytesAreQueued : Prop :=
  ∀ s : State, s.Inv → s.Booted →
    s.win.length = s.wlen ∧
    ∀ k, k < s.wlen → s.inQueue (s.phys .window k) = true ∧ s.win[k]? = some (s.byteAt (s.phys .window k))

/-- After an RXINC that examined a byte, or that found a frame held, PHASE is SEARCHING exactly when the
window is empty (R46 I5; where RXINC ends NODATA it changes nothing, and after a START_FAIL I5 can be
false: log 15). -/
def Obligations.SearchingMeansEmptyAfterRxinc : Prop :=
  ∀ (s t : State) (n : Nat), s.Inv → exec (.rxinc n) s = .next t → t.rxcode ≠ .nodata →
    (t.phase = .searching ↔ t.wlen = 0)

/-- A pending command is run after finitely many turns of the other agents, unless a reset among them discards
it (R293; R281): at most as many turns as are listed lead to a state u that still holds the word and whose turn
is the Engine's, which runs it (EngineTurnRunsTheDecodedCommand), or a listed reset's. (The list of turns, and
that a pending command runs where it names nobody, are the model's: log 7.) -/
def Obligations.PendingCommandIsRun : Prop :=
  ∀ (s : State) (w : Word), s.Inv → s.pending = some w →
    ∃ (k : Nat) (u t : State), k ≤ s.sched.length ∧ Host.Core.run Sys2Proof.core k s = .next u ∧
      u.pending = some w ∧ (u.nextTurn = .engine ∨ (u.nextTurn = .reset ∧ Turn.reset ∈ s.sched)) ∧
      step u = .next t ∧ t.pending = none ∧ t.busy = false

/-- Instances share no state (60_exceptions.md R268): a step of one leaves every other as it is. -/
def Obligations.InstancesAreIndependent : Prop :=
  ∀ (k j : Nat) (sys sys' : List State), systemStep k sys = .next sys' → j ≠ k →
    sys'[j]? = sys[j]? ∧ sys'.length = sys.length
end

