-- ==== Sys2Proof/Laws/Collaborators.lean ====
section
/-! SUPPORT. The example predicates EX of 95_test_vectors.md meet the duties of 43_receiver.md R201, so that
statements with those duties as a hypothesis are about something. -/

namespace Sys2Proof.Machine

/-- A byte that the shorter window has, the longer one has at the same place. -/
theorem winByte_append {b : List Byte} (c : List Byte) {k : Nat} (hk : k < b.length) :
    winByte (b ++ c) k = winByte b k := by
  simp only [winByte, List.getD_eq_getElem?_getD, List.getElem?_append_left hk]

theorem reference_duties : Collaborators.reference.params.Duties where
  start_optimistic b c h := by
    have h' : exPredStart (b ++ c) = true := h
    show exPredStart b = true
    simp only [exPredStart, List.all_eq_true, List.take_append] at h' ⊢
    exact fun x hx => h' x (List.mem_append_left _ hx)
  start_empty := rfl
  len_monotone b c h := by
    have h' : exPredLen b = true := h
    show exPredLen (b ++ c) = true
    simp only [exPredLen, Bool.and_eq_true, decide_eq_true_eq, List.length_append] at h' ⊢
    have e : win16 (b ++ c) 2 = win16 b 2 := by
      simp only [win16, winByte_append (b := b) c (k := 2) (by omega), winByte_append (b := b) c (k := 2 + 1) (by omega)]
    rw [e]
    omega

end Sys2Proof.Machine
end

