-- ==== Sys2Proof/Laws/State.lean ====
section
/-! SUPPORT. One lemma per field of State per named update, true by rfl, so that no later proof unfolds a
record update. -/

namespace Sys2Proof.Machine.State

variable (s : State)

/-! ## useDraws -/

@[simp] theorem useDraws_capLess1 (n : Nat) : (s.useDraws n).capLess1 = s.capLess1 := rfl
@[simp] theorem useDraws_collab (n : Nat) : (s.useDraws n).collab = s.collab := rfl
@[simp] theorem useDraws_source (n : Nat) : (s.useDraws n).source = s.source := rfl
@[simp] theorem useDraws_p (n : Nat) : (s.useDraws n).p = s.p := rfl
@[simp] theorem useDraws_wdata (n : Nat) : (s.useDraws n).wdata = s.wdata := rfl
@[simp] theorem useDraws_rdata (n : Nat) : (s.useDraws n).rdata = s.rdata := rfl
@[simp] theorem useDraws_xstart (n : Nat) : (s.useDraws n).xstart = s.xstart := rfl
@[simp] theorem useDraws_wstart (n : Nat) : (s.useDraws n).wstart = s.wstart := rfl
@[simp] theorem useDraws_wlen (n : Nat) : (s.useDraws n).wlen = s.wlen := rfl
@[simp] theorem useDraws_phase (n : Nat) : (s.useDraws n).phase = s.phase := rfl
@[simp] theorem useDraws_rxtime (n : Nat) : (s.useDraws n).rxtime = s.rxtime := rfl
@[simp] theorem useDraws_busy (n : Nat) : (s.useDraws n).busy = s.busy := rfl
@[simp] theorem useDraws_pending (n : Nat) : (s.useDraws n).pending = s.pending := rfl
@[simp] theorem useDraws_rxok (n : Nat) : (s.useDraws n).rxok = s.rxok := rfl
@[simp] theorem useDraws_rxcode (n : Nat) : (s.useDraws n).rxcode = s.rxcode := rfl
@[simp] theorem useDraws_err (n : Nat) : (s.useDraws n).err = s.err := rfl
@[simp] theorem useDraws_ecode (n : Nat) : (s.useDraws n).ecode = s.ecode := rfl
@[simp] theorem useDraws_mem (n : Nat) : (s.useDraws n).mem = s.mem := rfl
@[simp] theorem useDraws_qhead (n : Nat) : (s.useDraws n).qhead = s.qhead := rfl
@[simp] theorem useDraws_qcount (n : Nat) : (s.useDraws n).qcount = s.qcount := rfl
@[simp] theorem useDraws_prog (n : Nat) : (s.useDraws n).prog = s.prog := rfl
@[simp] theorem useDraws_results (n : Nat) : (s.useDraws n).results = s.results := rfl
@[simp] theorem useDraws_incoming (n : Nat) : (s.useDraws n).incoming = s.incoming := rfl
@[simp] theorem useDraws_sched (n : Nat) : (s.useDraws n).sched = s.sched := rfl
@[simp] theorem useDraws_draws (n : Nat) : (s.useDraws n).draws = s.draws + n := rfl
@[simp] theorem useDraws_times (n : Nat) : (s.useDraws n).times = s.times := rfl

/-! ## memWrite -/

@[simp] theorem memWrite_capLess1 (a : Nat) (b : Byte) : (s.memWrite a b).capLess1 = s.capLess1 := rfl
@[simp] theorem memWrite_collab (a : Nat) (b : Byte) : (s.memWrite a b).collab = s.collab := rfl
@[simp] theorem memWrite_source (a : Nat) (b : Byte) : (s.memWrite a b).source = s.source := rfl
@[simp] theorem memWrite_p (a : Nat) (b : Byte) : (s.memWrite a b).p = s.p := rfl
@[simp] theorem memWrite_wdata (a : Nat) (b : Byte) : (s.memWrite a b).wdata = s.wdata := rfl
@[simp] theorem memWrite_rdata (a : Nat) (b : Byte) : (s.memWrite a b).rdata = s.rdata := rfl
@[simp] theorem memWrite_xstart (a : Nat) (b : Byte) : (s.memWrite a b).xstart = s.xstart := rfl
@[simp] theorem memWrite_wstart (a : Nat) (b : Byte) : (s.memWrite a b).wstart = s.wstart := rfl
@[simp] theorem memWrite_wlen (a : Nat) (b : Byte) : (s.memWrite a b).wlen = s.wlen := rfl
@[simp] theorem memWrite_phase (a : Nat) (b : Byte) : (s.memWrite a b).phase = s.phase := rfl
@[simp] theorem memWrite_rxtime (a : Nat) (b : Byte) : (s.memWrite a b).rxtime = s.rxtime := rfl
@[simp] theorem memWrite_busy (a : Nat) (b : Byte) : (s.memWrite a b).busy = s.busy := rfl
@[simp] theorem memWrite_pending (a : Nat) (b : Byte) : (s.memWrite a b).pending = s.pending := rfl
@[simp] theorem memWrite_rxok (a : Nat) (b : Byte) : (s.memWrite a b).rxok = s.rxok := rfl
@[simp] theorem memWrite_rxcode (a : Nat) (b : Byte) : (s.memWrite a b).rxcode = s.rxcode := rfl
@[simp] theorem memWrite_err (a : Nat) (b : Byte) : (s.memWrite a b).err = s.err := rfl
@[simp] theorem memWrite_ecode (a : Nat) (b : Byte) : (s.memWrite a b).ecode = s.ecode := rfl
@[simp] theorem memWrite_mem (a : Nat) (b : Byte) : (s.memWrite a b).mem = s.mem.insert a b := rfl
@[simp] theorem memWrite_qhead (a : Nat) (b : Byte) : (s.memWrite a b).qhead = s.qhead := rfl
@[simp] theorem memWrite_qcount (a : Nat) (b : Byte) : (s.memWrite a b).qcount = s.qcount := rfl
@[simp] theorem memWrite_prog (a : Nat) (b : Byte) : (s.memWrite a b).prog = s.prog := rfl
@[simp] theorem memWrite_results (a : Nat) (b : Byte) : (s.memWrite a b).results = s.results := rfl
@[simp] theorem memWrite_incoming (a : Nat) (b : Byte) : (s.memWrite a b).incoming = s.incoming := rfl
@[simp] theorem memWrite_sched (a : Nat) (b : Byte) : (s.memWrite a b).sched = s.sched := rfl
@[simp] theorem memWrite_draws (a : Nat) (b : Byte) : (s.memWrite a b).draws = s.draws := rfl
@[simp] theorem memWrite_times (a : Nat) (b : Byte) : (s.memWrite a b).times = s.times := rfl

/-! ## consume -/

@[simp] theorem consume_capLess1 (n : Nat) : (s.consume n).capLess1 = s.capLess1 := rfl
@[simp] theorem consume_collab (n : Nat) : (s.consume n).collab = s.collab := rfl
@[simp] theorem consume_source (n : Nat) : (s.consume n).source = s.source := rfl
@[simp] theorem consume_p (n : Nat) : (s.consume n).p = s.p := rfl
@[simp] theorem consume_wdata (n : Nat) : (s.consume n).wdata = s.wdata := rfl
@[simp] theorem consume_rdata (n : Nat) : (s.consume n).rdata = s.rdata := rfl
@[simp] theorem consume_xstart (n : Nat) : (s.consume n).xstart = s.xstart := rfl
@[simp] theorem consume_wstart (n : Nat) : (s.consume n).wstart = s.wstart := rfl
@[simp] theorem consume_wlen (n : Nat) : (s.consume n).wlen = s.wlen := rfl
@[simp] theorem consume_phase (n : Nat) : (s.consume n).phase = s.phase := rfl
@[simp] theorem consume_rxtime (n : Nat) : (s.consume n).rxtime = s.rxtime := rfl
@[simp] theorem consume_busy (n : Nat) : (s.consume n).busy = s.busy := rfl
@[simp] theorem consume_pending (n : Nat) : (s.consume n).pending = s.pending := rfl
@[simp] theorem consume_rxok (n : Nat) : (s.consume n).rxok = s.rxok := rfl
@[simp] theorem consume_rxcode (n : Nat) : (s.consume n).rxcode = s.rxcode := rfl
@[simp] theorem consume_err (n : Nat) : (s.consume n).err = s.err := rfl
@[simp] theorem consume_ecode (n : Nat) : (s.consume n).ecode = s.ecode := rfl
@[simp] theorem consume_mem (n : Nat) : (s.consume n).mem = s.mem := rfl
@[simp] theorem consume_qhead (n : Nat) : (s.consume n).qhead = (s.qhead + n) % s.cap := rfl
@[simp] theorem consume_qcount (n : Nat) : (s.consume n).qcount = s.qcount - n := rfl
@[simp] theorem consume_prog (n : Nat) : (s.consume n).prog = s.prog := rfl
@[simp] theorem consume_results (n : Nat) : (s.consume n).results = s.results := rfl
@[simp] theorem consume_incoming (n : Nat) : (s.consume n).incoming = s.incoming := rfl
@[simp] theorem consume_sched (n : Nat) : (s.consume n).sched = s.sched := rfl
@[simp] theorem consume_draws (n : Nat) : (s.consume n).draws = s.draws := rfl
@[simp] theorem consume_times (n : Nat) : (s.consume n).times = s.times := rfl

/-! ## enqueue -/

@[simp] theorem enqueue_capLess1 (b : Byte) : (s.enqueue b).capLess1 = s.capLess1 := rfl
@[simp] theorem enqueue_collab (b : Byte) : (s.enqueue b).collab = s.collab := rfl
@[simp] theorem enqueue_source (b : Byte) : (s.enqueue b).source = s.source := rfl
@[simp] theorem enqueue_p (b : Byte) : (s.enqueue b).p = s.p := rfl
@[simp] theorem enqueue_wdata (b : Byte) : (s.enqueue b).wdata = s.wdata := rfl
@[simp] theorem enqueue_rdata (b : Byte) : (s.enqueue b).rdata = s.rdata := rfl
@[simp] theorem enqueue_xstart (b : Byte) : (s.enqueue b).xstart = s.xstart := rfl
@[simp] theorem enqueue_wstart (b : Byte) : (s.enqueue b).wstart = s.wstart := rfl
@[simp] theorem enqueue_wlen (b : Byte) : (s.enqueue b).wlen = s.wlen := rfl
@[simp] theorem enqueue_phase (b : Byte) : (s.enqueue b).phase = s.phase := rfl
@[simp] theorem enqueue_rxtime (b : Byte) : (s.enqueue b).rxtime = s.rxtime := rfl
@[simp] theorem enqueue_busy (b : Byte) : (s.enqueue b).busy = s.busy := rfl
@[simp] theorem enqueue_pending (b : Byte) : (s.enqueue b).pending = s.pending := rfl
@[simp] theorem enqueue_rxok (b : Byte) : (s.enqueue b).rxok = s.rxok := rfl
@[simp] theorem enqueue_rxcode (b : Byte) : (s.enqueue b).rxcode = s.rxcode := rfl
@[simp] theorem enqueue_err (b : Byte) : (s.enqueue b).err = s.err := rfl
@[simp] theorem enqueue_ecode (b : Byte) : (s.enqueue b).ecode = s.ecode := rfl
@[simp] theorem enqueue_mem (b : Byte) : (s.enqueue b).mem = s.mem.insert ((s.qhead + s.qcount) % s.cap) b := rfl
@[simp] theorem enqueue_qhead (b : Byte) : (s.enqueue b).qhead = s.qhead := rfl
@[simp] theorem enqueue_qcount (b : Byte) : (s.enqueue b).qcount = s.qcount + 1 := rfl
@[simp] theorem enqueue_prog (b : Byte) : (s.enqueue b).prog = s.prog := rfl
@[simp] theorem enqueue_results (b : Byte) : (s.enqueue b).results = s.results := rfl
@[simp] theorem enqueue_incoming (b : Byte) : (s.enqueue b).incoming = s.incoming := rfl
@[simp] theorem enqueue_sched (b : Byte) : (s.enqueue b).sched = s.sched := rfl
@[simp] theorem enqueue_draws (b : Byte) : (s.enqueue b).draws = s.draws := rfl
@[simp] theorem enqueue_times (b : Byte) : (s.enqueue b).times = s.times := rfl

/-! ## setRdata -/

@[simp] theorem setRdata_capLess1 (x : Word) : (s.setRdata x).capLess1 = s.capLess1 := rfl
@[simp] theorem setRdata_collab (x : Word) : (s.setRdata x).collab = s.collab := rfl
@[simp] theorem setRdata_source (x : Word) : (s.setRdata x).source = s.source := rfl
@[simp] theorem setRdata_p (x : Word) : (s.setRdata x).p = s.p := rfl
@[simp] theorem setRdata_wdata (x : Word) : (s.setRdata x).wdata = s.wdata := rfl
@[simp] theorem setRdata_rdata (x : Word) : (s.setRdata x).rdata = x := rfl
@[simp] theorem setRdata_xstart (x : Word) : (s.setRdata x).xstart = s.xstart := rfl
@[simp] theorem setRdata_wstart (x : Word) : (s.setRdata x).wstart = s.wstart := rfl
@[simp] theorem setRdata_wlen (x : Word) : (s.setRdata x).wlen = s.wlen := rfl
@[simp] theorem setRdata_phase (x : Word) : (s.setRdata x).phase = s.phase := rfl
@[simp] theorem setRdata_rxtime (x : Word) : (s.setRdata x).rxtime = s.rxtime := rfl
@[simp] theorem setRdata_busy (x : Word) : (s.setRdata x).busy = s.busy := rfl
@[simp] theorem setRdata_pending (x : Word) : (s.setRdata x).pending = s.pending := rfl
@[simp] theorem setRdata_rxok (x : Word) : (s.setRdata x).rxok = s.rxok := rfl
@[simp] theorem setRdata_rxcode (x : Word) : (s.setRdata x).rxcode = s.rxcode := rfl
@[simp] theorem setRdata_err (x : Word) : (s.setRdata x).err = s.err := rfl
@[simp] theorem setRdata_ecode (x : Word) : (s.setRdata x).ecode = s.ecode := rfl
@[simp] theorem setRdata_mem (x : Word) : (s.setRdata x).mem = s.mem := rfl
@[simp] theorem setRdata_qhead (x : Word) : (s.setRdata x).qhead = s.qhead := rfl
@[simp] theorem setRdata_qcount (x : Word) : (s.setRdata x).qcount = s.qcount := rfl
@[simp] theorem setRdata_prog (x : Word) : (s.setRdata x).prog = s.prog := rfl
@[simp] theorem setRdata_results (x : Word) : (s.setRdata x).results = s.results := rfl
@[simp] theorem setRdata_incoming (x : Word) : (s.setRdata x).incoming = s.incoming := rfl
@[simp] theorem setRdata_sched (x : Word) : (s.setRdata x).sched = s.sched := rfl
@[simp] theorem setRdata_draws (x : Word) : (s.setRdata x).draws = s.draws := rfl
@[simp] theorem setRdata_times (x : Word) : (s.setRdata x).times = s.times := rfl

/-! ## setPhase -/

@[simp] theorem setPhase_capLess1 (f : Phase) : (s.setPhase f).capLess1 = s.capLess1 := rfl
@[simp] theorem setPhase_collab (f : Phase) : (s.setPhase f).collab = s.collab := rfl
@[simp] theorem setPhase_source (f : Phase) : (s.setPhase f).source = s.source := rfl
@[simp] theorem setPhase_p (f : Phase) : (s.setPhase f).p = s.p := rfl
@[simp] theorem setPhase_wdata (f : Phase) : (s.setPhase f).wdata = s.wdata := rfl
@[simp] theorem setPhase_rdata (f : Phase) : (s.setPhase f).rdata = s.rdata := rfl
@[simp] theorem setPhase_xstart (f : Phase) : (s.setPhase f).xstart = s.xstart := rfl
@[simp] theorem setPhase_wstart (f : Phase) : (s.setPhase f).wstart = s.wstart := rfl
@[simp] theorem setPhase_wlen (f : Phase) : (s.setPhase f).wlen = s.wlen := rfl
@[simp] theorem setPhase_phase (f : Phase) : (s.setPhase f).phase = f := rfl
@[simp] theorem setPhase_rxtime (f : Phase) : (s.setPhase f).rxtime = s.rxtime := rfl
@[simp] theorem setPhase_busy (f : Phase) : (s.setPhase f).busy = s.busy := rfl
@[simp] theorem setPhase_pending (f : Phase) : (s.setPhase f).pending = s.pending := rfl
@[simp] theorem setPhase_rxok (f : Phase) : (s.setPhase f).rxok = s.rxok := rfl
@[simp] theorem setPhase_rxcode (f : Phase) : (s.setPhase f).rxcode = s.rxcode := rfl
@[simp] theorem setPhase_err (f : Phase) : (s.setPhase f).err = s.err := rfl
@[simp] theorem setPhase_ecode (f : Phase) : (s.setPhase f).ecode = s.ecode := rfl
@[simp] theorem setPhase_mem (f : Phase) : (s.setPhase f).mem = s.mem := rfl
@[simp] theorem setPhase_qhead (f : Phase) : (s.setPhase f).qhead = s.qhead := rfl
@[simp] theorem setPhase_qcount (f : Phase) : (s.setPhase f).qcount = s.qcount := rfl
@[simp] theorem setPhase_prog (f : Phase) : (s.setPhase f).prog = s.prog := rfl
@[simp] theorem setPhase_results (f : Phase) : (s.setPhase f).results = s.results := rfl
@[simp] theorem setPhase_incoming (f : Phase) : (s.setPhase f).incoming = s.incoming := rfl
@[simp] theorem setPhase_sched (f : Phase) : (s.setPhase f).sched = s.sched := rfl
@[simp] theorem setPhase_draws (f : Phase) : (s.setPhase f).draws = s.draws := rfl
@[simp] theorem setPhase_times (f : Phase) : (s.setPhase f).times = s.times := rfl

/-! ## rxReport -/

@[simp] theorem rxReport_capLess1 (ok : Bool) (c : RxCode) : (s.rxReport ok c).capLess1 = s.capLess1 := rfl
@[simp] theorem rxReport_collab (ok : Bool) (c : RxCode) : (s.rxReport ok c).collab = s.collab := rfl
@[simp] theorem rxReport_source (ok : Bool) (c : RxCode) : (s.rxReport ok c).source = s.source := rfl
@[simp] theorem rxReport_p (ok : Bool) (c : RxCode) : (s.rxReport ok c).p = s.p := rfl
@[simp] theorem rxReport_wdata (ok : Bool) (c : RxCode) : (s.rxReport ok c).wdata = s.wdata := rfl
@[simp] theorem rxReport_rdata (ok : Bool) (c : RxCode) : (s.rxReport ok c).rdata = s.rdata := rfl
@[simp] theorem rxReport_xstart (ok : Bool) (c : RxCode) : (s.rxReport ok c).xstart = s.xstart := rfl
@[simp] theorem rxReport_wstart (ok : Bool) (c : RxCode) : (s.rxReport ok c).wstart = s.wstart := rfl
@[simp] theorem rxReport_wlen (ok : Bool) (c : RxCode) : (s.rxReport ok c).wlen = s.wlen := rfl
@[simp] theorem rxReport_phase (ok : Bool) (c : RxCode) : (s.rxReport ok c).phase = s.phase := rfl
@[simp] theorem rxReport_rxtime (ok : Bool) (c : RxCode) : (s.rxReport ok c).rxtime = s.rxtime := rfl
@[simp] theorem rxReport_busy (ok : Bool) (c : RxCode) : (s.rxReport ok c).busy = s.busy := rfl
@[simp] theorem rxReport_pending (ok : Bool) (c : RxCode) : (s.rxReport ok c).pending = s.pending := rfl
@[simp] theorem rxReport_rxok (ok : Bool) (c : RxCode) : (s.rxReport ok c).rxok = ok := rfl
@[simp] theorem rxReport_rxcode (ok : Bool) (c : RxCode) : (s.rxReport ok c).rxcode = c := rfl
@[simp] theorem rxReport_err (ok : Bool) (c : RxCode) : (s.rxReport ok c).err = s.err := rfl
@[simp] theorem rxReport_ecode (ok : Bool) (c : RxCode) : (s.rxReport ok c).ecode = s.ecode := rfl
@[simp] theorem rxReport_mem (ok : Bool) (c : RxCode) : (s.rxReport ok c).mem = s.mem := rfl
@[simp] theorem rxReport_qhead (ok : Bool) (c : RxCode) : (s.rxReport ok c).qhead = s.qhead := rfl
@[simp] theorem rxReport_qcount (ok : Bool) (c : RxCode) : (s.rxReport ok c).qcount = s.qcount := rfl
@[simp] theorem rxReport_prog (ok : Bool) (c : RxCode) : (s.rxReport ok c).prog = s.prog := rfl
@[simp] theorem rxReport_results (ok : Bool) (c : RxCode) : (s.rxReport ok c).results = s.results := rfl
@[simp] theorem rxReport_incoming (ok : Bool) (c : RxCode) : (s.rxReport ok c).incoming = s.incoming := rfl
@[simp] theorem rxReport_sched (ok : Bool) (c : RxCode) : (s.rxReport ok c).sched = s.sched := rfl
@[simp] theorem rxReport_draws (ok : Bool) (c : RxCode) : (s.rxReport ok c).draws = s.draws := rfl
@[simp] theorem rxReport_times (ok : Bool) (c : RxCode) : (s.rxReport ok c).times = s.times := rfl

/-! ## clearErr -/

@[simp] theorem clearErr_capLess1 : (s.clearErr).capLess1 = s.capLess1 := rfl
@[simp] theorem clearErr_collab : (s.clearErr).collab = s.collab := rfl
@[simp] theorem clearErr_source : (s.clearErr).source = s.source := rfl
@[simp] theorem clearErr_p : (s.clearErr).p = s.p := rfl
@[simp] theorem clearErr_wdata : (s.clearErr).wdata = s.wdata := rfl
@[simp] theorem clearErr_rdata : (s.clearErr).rdata = s.rdata := rfl
@[simp] theorem clearErr_xstart : (s.clearErr).xstart = s.xstart := rfl
@[simp] theorem clearErr_wstart : (s.clearErr).wstart = s.wstart := rfl
@[simp] theorem clearErr_wlen : (s.clearErr).wlen = s.wlen := rfl
@[simp] theorem clearErr_phase : (s.clearErr).phase = s.phase := rfl
@[simp] theorem clearErr_rxtime : (s.clearErr).rxtime = s.rxtime := rfl
@[simp] theorem clearErr_busy : (s.clearErr).busy = s.busy := rfl
@[simp] theorem clearErr_pending : (s.clearErr).pending = s.pending := rfl
@[simp] theorem clearErr_rxok : (s.clearErr).rxok = s.rxok := rfl
@[simp] theorem clearErr_rxcode : (s.clearErr).rxcode = s.rxcode := rfl
@[simp] theorem clearErr_err : (s.clearErr).err = false := rfl
@[simp] theorem clearErr_ecode : (s.clearErr).ecode = .none := rfl
@[simp] theorem clearErr_mem : (s.clearErr).mem = s.mem := rfl
@[simp] theorem clearErr_qhead : (s.clearErr).qhead = s.qhead := rfl
@[simp] theorem clearErr_qcount : (s.clearErr).qcount = s.qcount := rfl
@[simp] theorem clearErr_prog : (s.clearErr).prog = s.prog := rfl
@[simp] theorem clearErr_results : (s.clearErr).results = s.results := rfl
@[simp] theorem clearErr_incoming : (s.clearErr).incoming = s.incoming := rfl
@[simp] theorem clearErr_sched : (s.clearErr).sched = s.sched := rfl
@[simp] theorem clearErr_draws : (s.clearErr).draws = s.draws := rfl
@[simp] theorem clearErr_times : (s.clearErr).times = s.times := rfl

/-! ## accept -/

@[simp] theorem accept_capLess1 (w : Word) : (s.accept w).capLess1 = s.capLess1 := rfl
@[simp] theorem accept_collab (w : Word) : (s.accept w).collab = s.collab := rfl
@[simp] theorem accept_source (w : Word) : (s.accept w).source = s.source := rfl
@[simp] theorem accept_p (w : Word) : (s.accept w).p = s.p := rfl
@[simp] theorem accept_wdata (w : Word) : (s.accept w).wdata = s.wdata := rfl
@[simp] theorem accept_rdata (w : Word) : (s.accept w).rdata = s.rdata := rfl
@[simp] theorem accept_xstart (w : Word) : (s.accept w).xstart = s.xstart := rfl
@[simp] theorem accept_wstart (w : Word) : (s.accept w).wstart = s.wstart := rfl
@[simp] theorem accept_wlen (w : Word) : (s.accept w).wlen = s.wlen := rfl
@[simp] theorem accept_phase (w : Word) : (s.accept w).phase = s.phase := rfl
@[simp] theorem accept_rxtime (w : Word) : (s.accept w).rxtime = s.rxtime := rfl
@[simp] theorem accept_busy (w : Word) : (s.accept w).busy = true := rfl
@[simp] theorem accept_pending (w : Word) : (s.accept w).pending = some w := rfl
@[simp] theorem accept_rxok (w : Word) : (s.accept w).rxok = s.rxok := rfl
@[simp] theorem accept_rxcode (w : Word) : (s.accept w).rxcode = s.rxcode := rfl
@[simp] theorem accept_err (w : Word) : (s.accept w).err = s.err := rfl
@[simp] theorem accept_ecode (w : Word) : (s.accept w).ecode = s.ecode := rfl
@[simp] theorem accept_mem (w : Word) : (s.accept w).mem = s.mem := rfl
@[simp] theorem accept_qhead (w : Word) : (s.accept w).qhead = s.qhead := rfl
@[simp] theorem accept_qcount (w : Word) : (s.accept w).qcount = s.qcount := rfl
@[simp] theorem accept_prog (w : Word) : (s.accept w).prog = s.prog := rfl
@[simp] theorem accept_results (w : Word) : (s.accept w).results = s.results := rfl
@[simp] theorem accept_incoming (w : Word) : (s.accept w).incoming = s.incoming := rfl
@[simp] theorem accept_sched (w : Word) : (s.accept w).sched = s.sched := rfl
@[simp] theorem accept_draws (w : Word) : (s.accept w).draws = s.draws := rfl
@[simp] theorem accept_times (w : Word) : (s.accept w).times = s.times := rfl

/-! ## retire -/

@[simp] theorem retire_capLess1 : (s.retire).capLess1 = s.capLess1 := rfl
@[simp] theorem retire_collab : (s.retire).collab = s.collab := rfl
@[simp] theorem retire_source : (s.retire).source = s.source := rfl
@[simp] theorem retire_p : (s.retire).p = s.p := rfl
@[simp] theorem retire_wdata : (s.retire).wdata = s.wdata := rfl
@[simp] theorem retire_rdata : (s.retire).rdata = s.rdata := rfl
@[simp] theorem retire_xstart : (s.retire).xstart = s.xstart := rfl
@[simp] theorem retire_wstart : (s.retire).wstart = s.wstart := rfl
@[simp] theorem retire_wlen : (s.retire).wlen = s.wlen := rfl
@[simp] theorem retire_phase : (s.retire).phase = s.phase := rfl
@[simp] theorem retire_rxtime : (s.retire).rxtime = s.rxtime := rfl
@[simp] theorem retire_busy : (s.retire).busy = false := rfl
@[simp] theorem retire_pending : (s.retire).pending = none := rfl
@[simp] theorem retire_rxok : (s.retire).rxok = s.rxok := rfl
@[simp] theorem retire_rxcode : (s.retire).rxcode = s.rxcode := rfl
@[simp] theorem retire_err : (s.retire).err = s.err := rfl
@[simp] theorem retire_ecode : (s.retire).ecode = s.ecode := rfl
@[simp] theorem retire_mem : (s.retire).mem = s.mem := rfl
@[simp] theorem retire_qhead : (s.retire).qhead = s.qhead := rfl
@[simp] theorem retire_qcount : (s.retire).qcount = s.qcount := rfl
@[simp] theorem retire_prog : (s.retire).prog = s.prog := rfl
@[simp] theorem retire_results : (s.retire).results = s.results := rfl
@[simp] theorem retire_incoming : (s.retire).incoming = s.incoming := rfl
@[simp] theorem retire_sched : (s.retire).sched = s.sched := rfl
@[simp] theorem retire_draws : (s.retire).draws = s.draws := rfl
@[simp] theorem retire_times : (s.retire).times = s.times := rfl

/-! ## applyReset -/

@[simp] theorem applyReset_capLess1 : (s.applyReset).capLess1 = s.capLess1 := rfl
@[simp] theorem applyReset_collab : (s.applyReset).collab = s.collab := rfl
@[simp] theorem applyReset_source : (s.applyReset).source = s.source := rfl
@[simp] theorem applyReset_p : (s.applyReset).p = 0 := rfl
@[simp] theorem applyReset_wdata : (s.applyReset).wdata = 0 := rfl
@[simp] theorem applyReset_rdata : (s.applyReset).rdata = 0 := rfl
@[simp] theorem applyReset_xstart : (s.applyReset).xstart = 0 := rfl
@[simp] theorem applyReset_wstart : (s.applyReset).wstart = 0 := rfl
@[simp] theorem applyReset_wlen : (s.applyReset).wlen = 0 := rfl
@[simp] theorem applyReset_phase : (s.applyReset).phase = .searching := rfl
@[simp] theorem applyReset_rxtime : (s.applyReset).rxtime = 0 := rfl
@[simp] theorem applyReset_busy : (s.applyReset).busy = false := rfl
@[simp] theorem applyReset_pending : (s.applyReset).pending = none := rfl
@[simp] theorem applyReset_rxok : (s.applyReset).rxok = false := rfl
@[simp] theorem applyReset_rxcode : (s.applyReset).rxcode = .none := rfl
@[simp] theorem applyReset_err : (s.applyReset).err = false := rfl
@[simp] theorem applyReset_ecode : (s.applyReset).ecode = .none := rfl
@[simp] theorem applyReset_mem : (s.applyReset).mem = s.mem := rfl
@[simp] theorem applyReset_qhead : (s.applyReset).qhead = s.qhead := rfl
@[simp] theorem applyReset_qcount : (s.applyReset).qcount = s.qcount := rfl
@[simp] theorem applyReset_prog : (s.applyReset).prog = s.prog := rfl
@[simp] theorem applyReset_results : (s.applyReset).results = s.results := rfl
@[simp] theorem applyReset_incoming : (s.applyReset).incoming = s.incoming := rfl
@[simp] theorem applyReset_sched : (s.applyReset).sched = s.sched := rfl
@[simp] theorem applyReset_draws : (s.applyReset).draws = s.draws := rfl
@[simp] theorem applyReset_times : (s.applyReset).times = s.times := rfl

/-! ## grow -/

@[simp] theorem grow_capLess1 : (s.grow).capLess1 = s.capLess1 := rfl
@[simp] theorem grow_collab : (s.grow).collab = s.collab := rfl
@[simp] theorem grow_source : (s.grow).source = s.source := rfl
@[simp] theorem grow_p : (s.grow).p = s.p := rfl
@[simp] theorem grow_wdata : (s.grow).wdata = s.wdata := rfl
@[simp] theorem grow_rdata : (s.grow).rdata = s.rdata := rfl
@[simp] theorem grow_xstart : (s.grow).xstart = s.xstart := rfl
@[simp] theorem grow_wstart : (s.grow).wstart = s.wstart := rfl
@[simp] theorem grow_wlen : (s.grow).wlen = s.wlen + 1 := rfl
@[simp] theorem grow_phase : (s.grow).phase = s.phase := rfl
@[simp] theorem grow_rxtime : (s.grow).rxtime = if s.wlen = 0 then s.now else s.rxtime := rfl
@[simp] theorem grow_busy : (s.grow).busy = s.busy := rfl
@[simp] theorem grow_pending : (s.grow).pending = s.pending := rfl
@[simp] theorem grow_rxok : (s.grow).rxok = s.rxok := rfl
@[simp] theorem grow_rxcode : (s.grow).rxcode = s.rxcode := rfl
@[simp] theorem grow_err : (s.grow).err = s.err := rfl
@[simp] theorem grow_ecode : (s.grow).ecode = s.ecode := rfl
@[simp] theorem grow_mem : (s.grow).mem = s.mem := rfl
@[simp] theorem grow_qhead : (s.grow).qhead = s.qhead := rfl
@[simp] theorem grow_qcount : (s.grow).qcount = s.qcount := rfl
@[simp] theorem grow_prog : (s.grow).prog = s.prog := rfl
@[simp] theorem grow_results : (s.grow).results = s.results := rfl
@[simp] theorem grow_incoming : (s.grow).incoming = s.incoming := rfl
@[simp] theorem grow_sched : (s.grow).sched = s.sched := rfl
@[simp] theorem grow_draws : (s.grow).draws = s.draws := rfl
@[simp] theorem grow_times : (s.grow).times = if s.wlen = 0 then s.times + 1 else s.times := rfl

/-! ## advanceWindow -/

@[simp] theorem advanceWindow_capLess1 : (s.advanceWindow).capLess1 = s.capLess1 := rfl
@[simp] theorem advanceWindow_collab : (s.advanceWindow).collab = s.collab := rfl
@[simp] theorem advanceWindow_source : (s.advanceWindow).source = s.source := rfl
@[simp] theorem advanceWindow_p : (s.advanceWindow).p = s.p := rfl
@[simp] theorem advanceWindow_wdata : (s.advanceWindow).wdata = s.wdata := rfl
@[simp] theorem advanceWindow_rdata : (s.advanceWindow).rdata = s.rdata := rfl
@[simp] theorem advanceWindow_xstart : (s.advanceWindow).xstart = s.xstart := rfl
@[simp] theorem advanceWindow_wstart : (s.advanceWindow).wstart = (s.wstart + 1) % s.cap := rfl
@[simp] theorem advanceWindow_wlen : (s.advanceWindow).wlen = s.wlen - 1 := rfl
@[simp] theorem advanceWindow_phase : (s.advanceWindow).phase = s.phase := rfl
@[simp] theorem advanceWindow_rxtime : (s.advanceWindow).rxtime = s.rxtime := rfl
@[simp] theorem advanceWindow_busy : (s.advanceWindow).busy = s.busy := rfl
@[simp] theorem advanceWindow_pending : (s.advanceWindow).pending = s.pending := rfl
@[simp] theorem advanceWindow_rxok : (s.advanceWindow).rxok = s.rxok := rfl
@[simp] theorem advanceWindow_rxcode : (s.advanceWindow).rxcode = s.rxcode := rfl
@[simp] theorem advanceWindow_err : (s.advanceWindow).err = s.err := rfl
@[simp] theorem advanceWindow_ecode : (s.advanceWindow).ecode = s.ecode := rfl
@[simp] theorem advanceWindow_mem : (s.advanceWindow).mem = s.mem := rfl
@[simp] theorem advanceWindow_qhead : (s.advanceWindow).qhead = s.qhead := rfl
@[simp] theorem advanceWindow_qcount : (s.advanceWindow).qcount = s.qcount := rfl
@[simp] theorem advanceWindow_prog : (s.advanceWindow).prog = s.prog := rfl
@[simp] theorem advanceWindow_results : (s.advanceWindow).results = s.results := rfl
@[simp] theorem advanceWindow_incoming : (s.advanceWindow).incoming = s.incoming := rfl
@[simp] theorem advanceWindow_sched : (s.advanceWindow).sched = s.sched := rfl
@[simp] theorem advanceWindow_draws : (s.advanceWindow).draws = s.draws := rfl
@[simp] theorem advanceWindow_times : (s.advanceWindow).times = s.times := rfl

/-! ## skip -/

@[simp] theorem skip_capLess1 : (s.skip).capLess1 = s.capLess1 := rfl
@[simp] theorem skip_collab : (s.skip).collab = s.collab := rfl
@[simp] theorem skip_source : (s.skip).source = s.source := rfl
@[simp] theorem skip_p : (s.skip).p = s.p := rfl
@[simp] theorem skip_wdata : (s.skip).wdata = s.wdata := rfl
@[simp] theorem skip_rdata : (s.skip).rdata = s.rdata := rfl
@[simp] theorem skip_xstart : (s.skip).xstart = s.xstart := rfl
@[simp] theorem skip_wstart : (s.skip).wstart = (s.wstart + 1) % s.cap := rfl
@[simp] theorem skip_wlen : (s.skip).wlen = s.wlen - 1 := rfl
@[simp] theorem skip_phase : (s.skip).phase = s.phase := rfl
@[simp] theorem skip_rxtime : (s.skip).rxtime = s.rxtime := rfl
@[simp] theorem skip_busy : (s.skip).busy = s.busy := rfl
@[simp] theorem skip_pending : (s.skip).pending = s.pending := rfl
@[simp] theorem skip_rxok : (s.skip).rxok = s.rxok := rfl
@[simp] theorem skip_rxcode : (s.skip).rxcode = s.rxcode := rfl
@[simp] theorem skip_err : (s.skip).err = s.err := rfl
@[simp] theorem skip_ecode : (s.skip).ecode = s.ecode := rfl
@[simp] theorem skip_mem : (s.skip).mem = s.mem := rfl
@[simp] theorem skip_qhead : (s.skip).qhead = (s.qhead + 1) % s.cap := rfl
@[simp] theorem skip_qcount : (s.skip).qcount = s.qcount - 1 := rfl
@[simp] theorem skip_prog : (s.skip).prog = s.prog := rfl
@[simp] theorem skip_results : (s.skip).results = s.results := rfl
@[simp] theorem skip_incoming : (s.skip).incoming = s.incoming := rfl
@[simp] theorem skip_sched : (s.skip).sched = s.sched := rfl
@[simp] theorem skip_draws : (s.skip).draws = s.draws := rfl
@[simp] theorem skip_times : (s.skip).times = s.times := rfl

/-! ## readWin -/

@[simp] theorem readWin_capLess1 : (s.readWin).capLess1 = s.capLess1 := rfl
@[simp] theorem readWin_collab : (s.readWin).collab = s.collab := rfl
@[simp] theorem readWin_source : (s.readWin).source = s.source := rfl
@[simp] theorem readWin_p : (s.readWin).p = s.p := rfl
@[simp] theorem readWin_wdata : (s.readWin).wdata = s.wdata := rfl
@[simp] theorem readWin_rdata : (s.readWin).rdata = s.rdata := rfl
@[simp] theorem readWin_xstart : (s.readWin).xstart = s.xstart := rfl
@[simp] theorem readWin_wstart : (s.readWin).wstart = s.wstart := rfl
@[simp] theorem readWin_wlen : (s.readWin).wlen = s.wlen := rfl
@[simp] theorem readWin_phase : (s.readWin).phase = s.phase := rfl
@[simp] theorem readWin_rxtime : (s.readWin).rxtime = s.rxtime := rfl
@[simp] theorem readWin_busy : (s.readWin).busy = s.busy := rfl
@[simp] theorem readWin_pending : (s.readWin).pending = s.pending := rfl
@[simp] theorem readWin_rxok : (s.readWin).rxok = s.rxok := rfl
@[simp] theorem readWin_rxcode : (s.readWin).rxcode = s.rxcode := rfl
@[simp] theorem readWin_err : (s.readWin).err = s.err := rfl
@[simp] theorem readWin_ecode : (s.readWin).ecode = s.ecode := rfl
@[simp] theorem readWin_mem : (s.readWin).mem = s.mem := rfl
@[simp] theorem readWin_qhead : (s.readWin).qhead = s.qhead := rfl
@[simp] theorem readWin_qcount : (s.readWin).qcount = s.qcount := rfl
@[simp] theorem readWin_prog : (s.readWin).prog = s.prog := rfl
@[simp] theorem readWin_results : (s.readWin).results = s.results := rfl
@[simp] theorem readWin_incoming : (s.readWin).incoming = s.incoming := rfl
@[simp] theorem readWin_sched : (s.readWin).sched = s.sched := rfl
@[simp] theorem readWin_draws : (s.readWin).draws = s.draws + s.wlen := rfl
@[simp] theorem readWin_times : (s.readWin).times = s.times := rfl

/-! ## emptyWindow -/

@[simp] theorem emptyWindow_capLess1 : (s.emptyWindow).capLess1 = s.capLess1 := rfl
@[simp] theorem emptyWindow_collab : (s.emptyWindow).collab = s.collab := rfl
@[simp] theorem emptyWindow_source : (s.emptyWindow).source = s.source := rfl
@[simp] theorem emptyWindow_p : (s.emptyWindow).p = s.p := rfl
@[simp] theorem emptyWindow_wdata : (s.emptyWindow).wdata = s.wdata := rfl
@[simp] theorem emptyWindow_rdata : (s.emptyWindow).rdata = s.rdata := rfl
@[simp] theorem emptyWindow_xstart : (s.emptyWindow).xstart = s.xstart := rfl
@[simp] theorem emptyWindow_wstart : (s.emptyWindow).wstart = s.qhead := rfl
@[simp] theorem emptyWindow_wlen : (s.emptyWindow).wlen = 0 := rfl
@[simp] theorem emptyWindow_phase : (s.emptyWindow).phase = s.phase := rfl
@[simp] theorem emptyWindow_rxtime : (s.emptyWindow).rxtime = s.rxtime := rfl
@[simp] theorem emptyWindow_busy : (s.emptyWindow).busy = s.busy := rfl
@[simp] theorem emptyWindow_pending : (s.emptyWindow).pending = s.pending := rfl
@[simp] theorem emptyWindow_rxok : (s.emptyWindow).rxok = s.rxok := rfl
@[simp] theorem emptyWindow_rxcode : (s.emptyWindow).rxcode = s.rxcode := rfl
@[simp] theorem emptyWindow_err : (s.emptyWindow).err = s.err := rfl
@[simp] theorem emptyWindow_ecode : (s.emptyWindow).ecode = s.ecode := rfl
@[simp] theorem emptyWindow_mem : (s.emptyWindow).mem = s.mem := rfl
@[simp] theorem emptyWindow_qhead : (s.emptyWindow).qhead = s.qhead := rfl
@[simp] theorem emptyWindow_qcount : (s.emptyWindow).qcount = s.qcount := rfl
@[simp] theorem emptyWindow_prog : (s.emptyWindow).prog = s.prog := rfl
@[simp] theorem emptyWindow_results : (s.emptyWindow).results = s.results := rfl
@[simp] theorem emptyWindow_incoming : (s.emptyWindow).incoming = s.incoming := rfl
@[simp] theorem emptyWindow_sched : (s.emptyWindow).sched = s.sched := rfl
@[simp] theorem emptyWindow_draws : (s.emptyWindow).draws = s.draws := rfl
@[simp] theorem emptyWindow_times : (s.emptyWindow).times = s.times := rfl

/-! ## setP -/

@[simp] theorem setP_capLess1 (x : BitVec 16) : (s.setP x).capLess1 = s.capLess1 := rfl
@[simp] theorem setP_collab (x : BitVec 16) : (s.setP x).collab = s.collab := rfl
@[simp] theorem setP_source (x : BitVec 16) : (s.setP x).source = s.source := rfl
@[simp] theorem setP_p (x : BitVec 16) : (s.setP x).p = x := rfl
@[simp] theorem setP_wdata (x : BitVec 16) : (s.setP x).wdata = s.wdata := rfl
@[simp] theorem setP_rdata (x : BitVec 16) : (s.setP x).rdata = s.rdata := rfl
@[simp] theorem setP_xstart (x : BitVec 16) : (s.setP x).xstart = s.xstart := rfl
@[simp] theorem setP_wstart (x : BitVec 16) : (s.setP x).wstart = s.wstart := rfl
@[simp] theorem setP_wlen (x : BitVec 16) : (s.setP x).wlen = s.wlen := rfl
@[simp] theorem setP_phase (x : BitVec 16) : (s.setP x).phase = s.phase := rfl
@[simp] theorem setP_rxtime (x : BitVec 16) : (s.setP x).rxtime = s.rxtime := rfl
@[simp] theorem setP_busy (x : BitVec 16) : (s.setP x).busy = s.busy := rfl
@[simp] theorem setP_pending (x : BitVec 16) : (s.setP x).pending = s.pending := rfl
@[simp] theorem setP_rxok (x : BitVec 16) : (s.setP x).rxok = s.rxok := rfl
@[simp] theorem setP_rxcode (x : BitVec 16) : (s.setP x).rxcode = s.rxcode := rfl
@[simp] theorem setP_err (x : BitVec 16) : (s.setP x).err = s.err := rfl
@[simp] theorem setP_ecode (x : BitVec 16) : (s.setP x).ecode = s.ecode := rfl
@[simp] theorem setP_mem (x : BitVec 16) : (s.setP x).mem = s.mem := rfl
@[simp] theorem setP_qhead (x : BitVec 16) : (s.setP x).qhead = s.qhead := rfl
@[simp] theorem setP_qcount (x : BitVec 16) : (s.setP x).qcount = s.qcount := rfl
@[simp] theorem setP_prog (x : BitVec 16) : (s.setP x).prog = s.prog := rfl
@[simp] theorem setP_results (x : BitVec 16) : (s.setP x).results = s.results := rfl
@[simp] theorem setP_incoming (x : BitVec 16) : (s.setP x).incoming = s.incoming := rfl
@[simp] theorem setP_sched (x : BitVec 16) : (s.setP x).sched = s.sched := rfl
@[simp] theorem setP_draws (x : BitVec 16) : (s.setP x).draws = s.draws := rfl
@[simp] theorem setP_times (x : BitVec 16) : (s.setP x).times = s.times := rfl

/-! ## setWdata -/

@[simp] theorem setWdata_capLess1 (x : Word) : (s.setWdata x).capLess1 = s.capLess1 := rfl
@[simp] theorem setWdata_collab (x : Word) : (s.setWdata x).collab = s.collab := rfl
@[simp] theorem setWdata_source (x : Word) : (s.setWdata x).source = s.source := rfl
@[simp] theorem setWdata_p (x : Word) : (s.setWdata x).p = s.p := rfl
@[simp] theorem setWdata_wdata (x : Word) : (s.setWdata x).wdata = x := rfl
@[simp] theorem setWdata_rdata (x : Word) : (s.setWdata x).rdata = s.rdata := rfl
@[simp] theorem setWdata_xstart (x : Word) : (s.setWdata x).xstart = s.xstart := rfl
@[simp] theorem setWdata_wstart (x : Word) : (s.setWdata x).wstart = s.wstart := rfl
@[simp] theorem setWdata_wlen (x : Word) : (s.setWdata x).wlen = s.wlen := rfl
@[simp] theorem setWdata_phase (x : Word) : (s.setWdata x).phase = s.phase := rfl
@[simp] theorem setWdata_rxtime (x : Word) : (s.setWdata x).rxtime = s.rxtime := rfl
@[simp] theorem setWdata_busy (x : Word) : (s.setWdata x).busy = s.busy := rfl
@[simp] theorem setWdata_pending (x : Word) : (s.setWdata x).pending = s.pending := rfl
@[simp] theorem setWdata_rxok (x : Word) : (s.setWdata x).rxok = s.rxok := rfl
@[simp] theorem setWdata_rxcode (x : Word) : (s.setWdata x).rxcode = s.rxcode := rfl
@[simp] theorem setWdata_err (x : Word) : (s.setWdata x).err = s.err := rfl
@[simp] theorem setWdata_ecode (x : Word) : (s.setWdata x).ecode = s.ecode := rfl
@[simp] theorem setWdata_mem (x : Word) : (s.setWdata x).mem = s.mem := rfl
@[simp] theorem setWdata_qhead (x : Word) : (s.setWdata x).qhead = s.qhead := rfl
@[simp] theorem setWdata_qcount (x : Word) : (s.setWdata x).qcount = s.qcount := rfl
@[simp] theorem setWdata_prog (x : Word) : (s.setWdata x).prog = s.prog := rfl
@[simp] theorem setWdata_results (x : Word) : (s.setWdata x).results = s.results := rfl
@[simp] theorem setWdata_incoming (x : Word) : (s.setWdata x).incoming = s.incoming := rfl
@[simp] theorem setWdata_sched (x : Word) : (s.setWdata x).sched = s.sched := rfl
@[simp] theorem setWdata_draws (x : Word) : (s.setWdata x).draws = s.draws := rfl
@[simp] theorem setWdata_times (x : Word) : (s.setWdata x).times = s.times := rfl

/-! ## setXstart -/

@[simp] theorem setXstart_capLess1 (x : Word) : (s.setXstart x).capLess1 = s.capLess1 := rfl
@[simp] theorem setXstart_collab (x : Word) : (s.setXstart x).collab = s.collab := rfl
@[simp] theorem setXstart_source (x : Word) : (s.setXstart x).source = s.source := rfl
@[simp] theorem setXstart_p (x : Word) : (s.setXstart x).p = s.p := rfl
@[simp] theorem setXstart_wdata (x : Word) : (s.setXstart x).wdata = s.wdata := rfl
@[simp] theorem setXstart_rdata (x : Word) : (s.setXstart x).rdata = s.rdata := rfl
@[simp] theorem setXstart_xstart (x : Word) : (s.setXstart x).xstart = x.toNat % s.cap := rfl
@[simp] theorem setXstart_wstart (x : Word) : (s.setXstart x).wstart = s.wstart := rfl
@[simp] theorem setXstart_wlen (x : Word) : (s.setXstart x).wlen = s.wlen := rfl
@[simp] theorem setXstart_phase (x : Word) : (s.setXstart x).phase = s.phase := rfl
@[simp] theorem setXstart_rxtime (x : Word) : (s.setXstart x).rxtime = s.rxtime := rfl
@[simp] theorem setXstart_busy (x : Word) : (s.setXstart x).busy = s.busy := rfl
@[simp] theorem setXstart_pending (x : Word) : (s.setXstart x).pending = s.pending := rfl
@[simp] theorem setXstart_rxok (x : Word) : (s.setXstart x).rxok = s.rxok := rfl
@[simp] theorem setXstart_rxcode (x : Word) : (s.setXstart x).rxcode = s.rxcode := rfl
@[simp] theorem setXstart_err (x : Word) : (s.setXstart x).err = s.err := rfl
@[simp] theorem setXstart_ecode (x : Word) : (s.setXstart x).ecode = s.ecode := rfl
@[simp] theorem setXstart_mem (x : Word) : (s.setXstart x).mem = s.mem := rfl
@[simp] theorem setXstart_qhead (x : Word) : (s.setXstart x).qhead = s.qhead := rfl
@[simp] theorem setXstart_qcount (x : Word) : (s.setXstart x).qcount = s.qcount := rfl
@[simp] theorem setXstart_prog (x : Word) : (s.setXstart x).prog = s.prog := rfl
@[simp] theorem setXstart_results (x : Word) : (s.setXstart x).results = s.results := rfl
@[simp] theorem setXstart_incoming (x : Word) : (s.setXstart x).incoming = s.incoming := rfl
@[simp] theorem setXstart_sched (x : Word) : (s.setXstart x).sched = s.sched := rfl
@[simp] theorem setXstart_draws (x : Word) : (s.setXstart x).draws = s.draws := rfl
@[simp] theorem setXstart_times (x : Word) : (s.setXstart x).times = s.times := rfl

/-! ## setProg -/

@[simp] theorem setProg_capLess1 (l : List HostStmt) : (s.setProg l).capLess1 = s.capLess1 := rfl
@[simp] theorem setProg_collab (l : List HostStmt) : (s.setProg l).collab = s.collab := rfl
@[simp] theorem setProg_source (l : List HostStmt) : (s.setProg l).source = s.source := rfl
@[simp] theorem setProg_p (l : List HostStmt) : (s.setProg l).p = s.p := rfl
@[simp] theorem setProg_wdata (l : List HostStmt) : (s.setProg l).wdata = s.wdata := rfl
@[simp] theorem setProg_rdata (l : List HostStmt) : (s.setProg l).rdata = s.rdata := rfl
@[simp] theorem setProg_xstart (l : List HostStmt) : (s.setProg l).xstart = s.xstart := rfl
@[simp] theorem setProg_wstart (l : List HostStmt) : (s.setProg l).wstart = s.wstart := rfl
@[simp] theorem setProg_wlen (l : List HostStmt) : (s.setProg l).wlen = s.wlen := rfl
@[simp] theorem setProg_phase (l : List HostStmt) : (s.setProg l).phase = s.phase := rfl
@[simp] theorem setProg_rxtime (l : List HostStmt) : (s.setProg l).rxtime = s.rxtime := rfl
@[simp] theorem setProg_busy (l : List HostStmt) : (s.setProg l).busy = s.busy := rfl
@[simp] theorem setProg_pending (l : List HostStmt) : (s.setProg l).pending = s.pending := rfl
@[simp] theorem setProg_rxok (l : List HostStmt) : (s.setProg l).rxok = s.rxok := rfl
@[simp] theorem setProg_rxcode (l : List HostStmt) : (s.setProg l).rxcode = s.rxcode := rfl
@[simp] theorem setProg_err (l : List HostStmt) : (s.setProg l).err = s.err := rfl
@[simp] theorem setProg_ecode (l : List HostStmt) : (s.setProg l).ecode = s.ecode := rfl
@[simp] theorem setProg_mem (l : List HostStmt) : (s.setProg l).mem = s.mem := rfl
@[simp] theorem setProg_qhead (l : List HostStmt) : (s.setProg l).qhead = s.qhead := rfl
@[simp] theorem setProg_qcount (l : List HostStmt) : (s.setProg l).qcount = s.qcount := rfl
@[simp] theorem setProg_prog (l : List HostStmt) : (s.setProg l).prog = l := rfl
@[simp] theorem setProg_results (l : List HostStmt) : (s.setProg l).results = s.results := rfl
@[simp] theorem setProg_incoming (l : List HostStmt) : (s.setProg l).incoming = s.incoming := rfl
@[simp] theorem setProg_sched (l : List HostStmt) : (s.setProg l).sched = s.sched := rfl
@[simp] theorem setProg_draws (l : List HostStmt) : (s.setProg l).draws = s.draws := rfl
@[simp] theorem setProg_times (l : List HostStmt) : (s.setProg l).times = s.times := rfl

/-! ## setIncoming -/

@[simp] theorem setIncoming_capLess1 (l : List Byte) : (s.setIncoming l).capLess1 = s.capLess1 := rfl
@[simp] theorem setIncoming_collab (l : List Byte) : (s.setIncoming l).collab = s.collab := rfl
@[simp] theorem setIncoming_source (l : List Byte) : (s.setIncoming l).source = s.source := rfl
@[simp] theorem setIncoming_p (l : List Byte) : (s.setIncoming l).p = s.p := rfl
@[simp] theorem setIncoming_wdata (l : List Byte) : (s.setIncoming l).wdata = s.wdata := rfl
@[simp] theorem setIncoming_rdata (l : List Byte) : (s.setIncoming l).rdata = s.rdata := rfl
@[simp] theorem setIncoming_xstart (l : List Byte) : (s.setIncoming l).xstart = s.xstart := rfl
@[simp] theorem setIncoming_wstart (l : List Byte) : (s.setIncoming l).wstart = s.wstart := rfl
@[simp] theorem setIncoming_wlen (l : List Byte) : (s.setIncoming l).wlen = s.wlen := rfl
@[simp] theorem setIncoming_phase (l : List Byte) : (s.setIncoming l).phase = s.phase := rfl
@[simp] theorem setIncoming_rxtime (l : List Byte) : (s.setIncoming l).rxtime = s.rxtime := rfl
@[simp] theorem setIncoming_busy (l : List Byte) : (s.setIncoming l).busy = s.busy := rfl
@[simp] theorem setIncoming_pending (l : List Byte) : (s.setIncoming l).pending = s.pending := rfl
@[simp] theorem setIncoming_rxok (l : List Byte) : (s.setIncoming l).rxok = s.rxok := rfl
@[simp] theorem setIncoming_rxcode (l : List Byte) : (s.setIncoming l).rxcode = s.rxcode := rfl
@[simp] theorem setIncoming_err (l : List Byte) : (s.setIncoming l).err = s.err := rfl
@[simp] theorem setIncoming_ecode (l : List Byte) : (s.setIncoming l).ecode = s.ecode := rfl
@[simp] theorem setIncoming_mem (l : List Byte) : (s.setIncoming l).mem = s.mem := rfl
@[simp] theorem setIncoming_qhead (l : List Byte) : (s.setIncoming l).qhead = s.qhead := rfl
@[simp] theorem setIncoming_qcount (l : List Byte) : (s.setIncoming l).qcount = s.qcount := rfl
@[simp] theorem setIncoming_prog (l : List Byte) : (s.setIncoming l).prog = s.prog := rfl
@[simp] theorem setIncoming_results (l : List Byte) : (s.setIncoming l).results = s.results := rfl
@[simp] theorem setIncoming_incoming (l : List Byte) : (s.setIncoming l).incoming = l := rfl
@[simp] theorem setIncoming_sched (l : List Byte) : (s.setIncoming l).sched = s.sched := rfl
@[simp] theorem setIncoming_draws (l : List Byte) : (s.setIncoming l).draws = s.draws := rfl
@[simp] theorem setIncoming_times (l : List Byte) : (s.setIncoming l).times = s.times := rfl

/-! ## record -/

@[simp] theorem record_capLess1 (x : Word) : (s.record x).capLess1 = s.capLess1 := rfl
@[simp] theorem record_collab (x : Word) : (s.record x).collab = s.collab := rfl
@[simp] theorem record_source (x : Word) : (s.record x).source = s.source := rfl
@[simp] theorem record_p (x : Word) : (s.record x).p = s.p := rfl
@[simp] theorem record_wdata (x : Word) : (s.record x).wdata = s.wdata := rfl
@[simp] theorem record_rdata (x : Word) : (s.record x).rdata = s.rdata := rfl
@[simp] theorem record_xstart (x : Word) : (s.record x).xstart = s.xstart := rfl
@[simp] theorem record_wstart (x : Word) : (s.record x).wstart = s.wstart := rfl
@[simp] theorem record_wlen (x : Word) : (s.record x).wlen = s.wlen := rfl
@[simp] theorem record_phase (x : Word) : (s.record x).phase = s.phase := rfl
@[simp] theorem record_rxtime (x : Word) : (s.record x).rxtime = s.rxtime := rfl
@[simp] theorem record_busy (x : Word) : (s.record x).busy = s.busy := rfl
@[simp] theorem record_pending (x : Word) : (s.record x).pending = s.pending := rfl
@[simp] theorem record_rxok (x : Word) : (s.record x).rxok = s.rxok := rfl
@[simp] theorem record_rxcode (x : Word) : (s.record x).rxcode = s.rxcode := rfl
@[simp] theorem record_err (x : Word) : (s.record x).err = s.err := rfl
@[simp] theorem record_ecode (x : Word) : (s.record x).ecode = s.ecode := rfl
@[simp] theorem record_mem (x : Word) : (s.record x).mem = s.mem := rfl
@[simp] theorem record_qhead (x : Word) : (s.record x).qhead = s.qhead := rfl
@[simp] theorem record_qcount (x : Word) : (s.record x).qcount = s.qcount := rfl
@[simp] theorem record_prog (x : Word) : (s.record x).prog = s.prog := rfl
@[simp] theorem record_results (x : Word) : (s.record x).results = x :: s.results := rfl
@[simp] theorem record_incoming (x : Word) : (s.record x).incoming = s.incoming := rfl
@[simp] theorem record_sched (x : Word) : (s.record x).sched = s.sched := rfl
@[simp] theorem record_draws (x : Word) : (s.record x).draws = s.draws := rfl
@[simp] theorem record_times (x : Word) : (s.record x).times = s.times := rfl

/-! ## popTurn -/

@[simp] theorem popTurn_capLess1 : (s.popTurn).capLess1 = s.capLess1 := rfl
@[simp] theorem popTurn_collab : (s.popTurn).collab = s.collab := rfl
@[simp] theorem popTurn_source : (s.popTurn).source = s.source := rfl
@[simp] theorem popTurn_p : (s.popTurn).p = s.p := rfl
@[simp] theorem popTurn_wdata : (s.popTurn).wdata = s.wdata := rfl
@[simp] theorem popTurn_rdata : (s.popTurn).rdata = s.rdata := rfl
@[simp] theorem popTurn_xstart : (s.popTurn).xstart = s.xstart := rfl
@[simp] theorem popTurn_wstart : (s.popTurn).wstart = s.wstart := rfl
@[simp] theorem popTurn_wlen : (s.popTurn).wlen = s.wlen := rfl
@[simp] theorem popTurn_phase : (s.popTurn).phase = s.phase := rfl
@[simp] theorem popTurn_rxtime : (s.popTurn).rxtime = s.rxtime := rfl
@[simp] theorem popTurn_busy : (s.popTurn).busy = s.busy := rfl
@[simp] theorem popTurn_pending : (s.popTurn).pending = s.pending := rfl
@[simp] theorem popTurn_rxok : (s.popTurn).rxok = s.rxok := rfl
@[simp] theorem popTurn_rxcode : (s.popTurn).rxcode = s.rxcode := rfl
@[simp] theorem popTurn_err : (s.popTurn).err = s.err := rfl
@[simp] theorem popTurn_ecode : (s.popTurn).ecode = s.ecode := rfl
@[simp] theorem popTurn_mem : (s.popTurn).mem = s.mem := rfl
@[simp] theorem popTurn_qhead : (s.popTurn).qhead = s.qhead := rfl
@[simp] theorem popTurn_qcount : (s.popTurn).qcount = s.qcount := rfl
@[simp] theorem popTurn_prog : (s.popTurn).prog = s.prog := rfl
@[simp] theorem popTurn_results : (s.popTurn).results = s.results := rfl
@[simp] theorem popTurn_incoming : (s.popTurn).incoming = s.incoming := rfl
@[simp] theorem popTurn_sched : (s.popTurn).sched = s.sched.tail := rfl
@[simp] theorem popTurn_draws : (s.popTurn).draws = s.draws := rfl
@[simp] theorem popTurn_times : (s.popTurn).times = s.times := rfl

/-! ## raise: only ERR and ECODE can change (60_exceptions.md R255, R256) -/

@[simp] theorem raise_capLess1 (c : ErrCode) : (s.raise c).capLess1 = s.capLess1 := by unfold raise; split <;> rfl
@[simp] theorem raise_collab (c : ErrCode) : (s.raise c).collab = s.collab := by unfold raise; split <;> rfl
@[simp] theorem raise_source (c : ErrCode) : (s.raise c).source = s.source := by unfold raise; split <;> rfl
@[simp] theorem raise_p (c : ErrCode) : (s.raise c).p = s.p := by unfold raise; split <;> rfl
@[simp] theorem raise_wdata (c : ErrCode) : (s.raise c).wdata = s.wdata := by unfold raise; split <;> rfl
@[simp] theorem raise_rdata (c : ErrCode) : (s.raise c).rdata = s.rdata := by unfold raise; split <;> rfl
@[simp] theorem raise_xstart (c : ErrCode) : (s.raise c).xstart = s.xstart := by unfold raise; split <;> rfl
@[simp] theorem raise_wstart (c : ErrCode) : (s.raise c).wstart = s.wstart := by unfold raise; split <;> rfl
@[simp] theorem raise_wlen (c : ErrCode) : (s.raise c).wlen = s.wlen := by unfold raise; split <;> rfl
@[simp] theorem raise_phase (c : ErrCode) : (s.raise c).phase = s.phase := by unfold raise; split <;> rfl
@[simp] theorem raise_rxtime (c : ErrCode) : (s.raise c).rxtime = s.rxtime := by unfold raise; split <;> rfl
@[simp] theorem raise_busy (c : ErrCode) : (s.raise c).busy = s.busy := by unfold raise; split <;> rfl
@[simp] theorem raise_pending (c : ErrCode) : (s.raise c).pending = s.pending := by unfold raise; split <;> rfl
@[simp] theorem raise_rxok (c : ErrCode) : (s.raise c).rxok = s.rxok := by unfold raise; split <;> rfl
@[simp] theorem raise_rxcode (c : ErrCode) : (s.raise c).rxcode = s.rxcode := by unfold raise; split <;> rfl
@[simp] theorem raise_err (c : ErrCode) : (s.raise c).err = true := by
  unfold raise; split <;> simp_all
@[simp] theorem raise_ecode (c : ErrCode) : (s.raise c).ecode = if s.err then s.ecode else c := by
  unfold raise; split <;> rfl
@[simp] theorem raise_mem (c : ErrCode) : (s.raise c).mem = s.mem := by unfold raise; split <;> rfl
@[simp] theorem raise_qhead (c : ErrCode) : (s.raise c).qhead = s.qhead := by unfold raise; split <;> rfl
@[simp] theorem raise_qcount (c : ErrCode) : (s.raise c).qcount = s.qcount := by unfold raise; split <;> rfl
@[simp] theorem raise_prog (c : ErrCode) : (s.raise c).prog = s.prog := by unfold raise; split <;> rfl
@[simp] theorem raise_results (c : ErrCode) : (s.raise c).results = s.results := by unfold raise; split <;> rfl
@[simp] theorem raise_incoming (c : ErrCode) : (s.raise c).incoming = s.incoming := by unfold raise; split <;> rfl
@[simp] theorem raise_sched (c : ErrCode) : (s.raise c).sched = s.sched := by unfold raise; split <;> rfl
@[simp] theorem raise_draws (c : ErrCode) : (s.raise c).draws = s.draws := by unfold raise; split <;> rfl
@[simp] theorem raise_times (c : ErrCode) : (s.raise c).times = s.times := by unfold raise; split <;> rfl

end Sys2Proof.Machine.State
end

