-- ==== Sys2Proof/Laws/Readers.lean ====
section
/-! SUPPORT. What each named update leaves of the derived readers: CAP, the parameters, the stored bytes,
the queued region, the translation, the free bytes. -/

namespace Sys2Proof.Machine.State

variable (s : State)

/-! ## useDraws -/

@[simp] theorem useDraws_cap (n : Nat) : (s.useDraws n).cap = s.cap := rfl
@[simp] theorem useDraws_params (n : Nat) : (s.useDraws n).params = s.params := rfl
@[simp] theorem useDraws_byteAt (n : Nat) (x : Nat) : (s.useDraws n).byteAt x = s.byteAt x := rfl
@[simp] theorem useDraws_inQueue (n : Nat) (x : Nat) : (s.useDraws n).inQueue x = s.inQueue x := rfl
@[simp] theorem useDraws_base (n : Nat) (v : View) : (s.useDraws n).base v = s.base v := by cases v <;> rfl
@[simp] theorem useDraws_phys (n : Nat) (v : View) (l : Nat) : (s.useDraws n).phys v l = s.phys v l := by cases v <;> rfl
@[simp] theorem useDraws_fieldIndex (n : Nat) (v : View) (i k : Nat) : (s.useDraws n).fieldIndex v i k = s.fieldIndex v i k := by cases v <;> rfl

/-! ## memWrite -/

@[simp] theorem memWrite_cap (a : Nat) (b : Byte) : (s.memWrite a b).cap = s.cap := rfl
@[simp] theorem memWrite_params (a : Nat) (b : Byte) : (s.memWrite a b).params = s.params := rfl
@[simp] theorem memWrite_inQueue (a : Nat) (b : Byte) (x : Nat) : (s.memWrite a b).inQueue x = s.inQueue x := rfl
@[simp] theorem memWrite_base (a : Nat) (b : Byte) (v : View) : (s.memWrite a b).base v = s.base v := by cases v <;> rfl
@[simp] theorem memWrite_phys (a : Nat) (b : Byte) (v : View) (l : Nat) : (s.memWrite a b).phys v l = s.phys v l := by cases v <;> rfl
@[simp] theorem memWrite_draw8 (a : Nat) (b : Byte) (k : Nat) : (s.memWrite a b).draw8 k = s.draw8 k := rfl
@[simp] theorem memWrite_fieldIndex (a : Nat) (b : Byte) (v : View) (i k : Nat) : (s.memWrite a b).fieldIndex v i k = s.fieldIndex v i k := by cases v <;> rfl

/-! ## consume -/

@[simp] theorem consume_cap (n : Nat) : (s.consume n).cap = s.cap := rfl
@[simp] theorem consume_params (n : Nat) : (s.consume n).params = s.params := rfl
@[simp] theorem consume_byteAt (n : Nat) (x : Nat) : (s.consume n).byteAt x = s.byteAt x := rfl
@[simp] theorem consume_base (n : Nat) (v : View) : (s.consume n).base v = s.base v := by cases v <;> rfl
@[simp] theorem consume_phys (n : Nat) (v : View) (l : Nat) : (s.consume n).phys v l = s.phys v l := by cases v <;> rfl
@[simp] theorem consume_draw8 (n : Nat) (k : Nat) : (s.consume n).draw8 k = s.draw8 k := rfl
@[simp] theorem consume_fieldIndex (n : Nat) (v : View) (i k : Nat) : (s.consume n).fieldIndex v i k = s.fieldIndex v i k := by cases v <;> rfl

/-! ## enqueue -/

@[simp] theorem enqueue_cap (b : Byte) : (s.enqueue b).cap = s.cap := rfl
@[simp] theorem enqueue_params (b : Byte) : (s.enqueue b).params = s.params := rfl
@[simp] theorem enqueue_base (b : Byte) (v : View) : (s.enqueue b).base v = s.base v := by cases v <;> rfl
@[simp] theorem enqueue_phys (b : Byte) (v : View) (l : Nat) : (s.enqueue b).phys v l = s.phys v l := by cases v <;> rfl
@[simp] theorem enqueue_draw8 (b : Byte) (k : Nat) : (s.enqueue b).draw8 k = s.draw8 k := rfl
@[simp] theorem enqueue_fieldIndex (b : Byte) (v : View) (i k : Nat) : (s.enqueue b).fieldIndex v i k = s.fieldIndex v i k := by cases v <;> rfl

/-! ## setRdata -/

@[simp] theorem setRdata_cap (x : Word) : (s.setRdata x).cap = s.cap := rfl
@[simp] theorem setRdata_params (x : Word) : (s.setRdata x).params = s.params := rfl
@[simp] theorem setRdata_byteAt (x : Word) (y : Nat) : (s.setRdata x).byteAt y = s.byteAt y := rfl
@[simp] theorem setRdata_inQueue (x : Word) (y : Nat) : (s.setRdata x).inQueue y = s.inQueue y := rfl
@[simp] theorem setRdata_base (x : Word) (v : View) : (s.setRdata x).base v = s.base v := by cases v <;> rfl
@[simp] theorem setRdata_phys (x : Word) (v : View) (l : Nat) : (s.setRdata x).phys v l = s.phys v l := by cases v <;> rfl
@[simp] theorem setRdata_draw8 (x : Word) (k : Nat) : (s.setRdata x).draw8 k = s.draw8 k := rfl
@[simp] theorem setRdata_fieldIndex (x : Word) (v : View) (i k : Nat) : (s.setRdata x).fieldIndex v i k = s.fieldIndex v i k := by cases v <;> rfl
@[simp] theorem setRdata_memRead (x : Word) (y k : Nat) : (s.setRdata x).memRead y k = s.memRead y k := rfl

/-! ## setPhase -/

@[simp] theorem setPhase_cap (f : Phase) : (s.setPhase f).cap = s.cap := rfl
@[simp] theorem setPhase_params (f : Phase) : (s.setPhase f).params = s.params := rfl
@[simp] theorem setPhase_byteAt (f : Phase) (x : Nat) : (s.setPhase f).byteAt x = s.byteAt x := rfl
@[simp] theorem setPhase_inQueue (f : Phase) (x : Nat) : (s.setPhase f).inQueue x = s.inQueue x := rfl
@[simp] theorem setPhase_base (f : Phase) (v : View) : (s.setPhase f).base v = s.base v := by cases v <;> rfl
@[simp] theorem setPhase_phys (f : Phase) (v : View) (l : Nat) : (s.setPhase f).phys v l = s.phys v l := by cases v <;> rfl
@[simp] theorem setPhase_draw8 (f : Phase) (k : Nat) : (s.setPhase f).draw8 k = s.draw8 k := rfl
@[simp] theorem setPhase_fieldIndex (f : Phase) (v : View) (i k : Nat) : (s.setPhase f).fieldIndex v i k = s.fieldIndex v i k := by cases v <;> rfl
@[simp] theorem setPhase_memRead (f : Phase) (x k : Nat) : (s.setPhase f).memRead x k = s.memRead x k := rfl

/-! ## rxReport -/

@[simp] theorem rxReport_cap (ok : Bool) (c : RxCode) : (s.rxReport ok c).cap = s.cap := rfl
@[simp] theorem rxReport_params (ok : Bool) (c : RxCode) : (s.rxReport ok c).params = s.params := rfl
@[simp] theorem rxReport_byteAt (ok : Bool) (c : RxCode) (x : Nat) : (s.rxReport ok c).byteAt x = s.byteAt x := rfl
@[simp] theorem rxReport_inQueue (ok : Bool) (c : RxCode) (x : Nat) : (s.rxReport ok c).inQueue x = s.inQueue x := rfl
@[simp] theorem rxReport_base (ok : Bool) (c : RxCode) (v : View) : (s.rxReport ok c).base v = s.base v := by cases v <;> rfl
@[simp] theorem rxReport_phys (ok : Bool) (c : RxCode) (v : View) (l : Nat) : (s.rxReport ok c).phys v l = s.phys v l := by cases v <;> rfl
@[simp] theorem rxReport_draw8 (ok : Bool) (c : RxCode) (k : Nat) : (s.rxReport ok c).draw8 k = s.draw8 k := rfl
@[simp] theorem rxReport_fieldIndex (ok : Bool) (c : RxCode) (v : View) (i k : Nat) : (s.rxReport ok c).fieldIndex v i k = s.fieldIndex v i k := by cases v <;> rfl
@[simp] theorem rxReport_memRead (ok : Bool) (c : RxCode) (x k : Nat) : (s.rxReport ok c).memRead x k = s.memRead x k := rfl

/-! ## clearErr -/

@[simp] theorem clearErr_cap : (s.clearErr).cap = s.cap := rfl
@[simp] theorem clearErr_params : (s.clearErr).params = s.params := rfl
@[simp] theorem clearErr_byteAt (x : Nat) : (s.clearErr).byteAt x = s.byteAt x := rfl
@[simp] theorem clearErr_inQueue (x : Nat) : (s.clearErr).inQueue x = s.inQueue x := rfl
@[simp] theorem clearErr_base (v : View) : (s.clearErr).base v = s.base v := by cases v <;> rfl
@[simp] theorem clearErr_phys (v : View) (l : Nat) : (s.clearErr).phys v l = s.phys v l := by cases v <;> rfl
@[simp] theorem clearErr_draw8 (k : Nat) : (s.clearErr).draw8 k = s.draw8 k := rfl
@[simp] theorem clearErr_fieldIndex (v : View) (i k : Nat) : (s.clearErr).fieldIndex v i k = s.fieldIndex v i k := by cases v <;> rfl
@[simp] theorem clearErr_memRead (x k : Nat) : (s.clearErr).memRead x k = s.memRead x k := rfl

/-! ## accept -/

@[simp] theorem accept_cap (w : Word) : (s.accept w).cap = s.cap := rfl
@[simp] theorem accept_params (w : Word) : (s.accept w).params = s.params := rfl
@[simp] theorem accept_byteAt (w : Word) (x : Nat) : (s.accept w).byteAt x = s.byteAt x := rfl
@[simp] theorem accept_inQueue (w : Word) (x : Nat) : (s.accept w).inQueue x = s.inQueue x := rfl
@[simp] theorem accept_base (w : Word) (v : View) : (s.accept w).base v = s.base v := by cases v <;> rfl
@[simp] theorem accept_phys (w : Word) (v : View) (l : Nat) : (s.accept w).phys v l = s.phys v l := by cases v <;> rfl
@[simp] theorem accept_draw8 (w : Word) (k : Nat) : (s.accept w).draw8 k = s.draw8 k := rfl
@[simp] theorem accept_fieldIndex (w : Word) (v : View) (i k : Nat) : (s.accept w).fieldIndex v i k = s.fieldIndex v i k := by cases v <;> rfl
@[simp] theorem accept_memRead (w : Word) (x k : Nat) : (s.accept w).memRead x k = s.memRead x k := rfl

/-! ## retire -/

@[simp] theorem retire_cap : (s.retire).cap = s.cap := rfl
@[simp] theorem retire_params : (s.retire).params = s.params := rfl
@[simp] theorem retire_byteAt (x : Nat) : (s.retire).byteAt x = s.byteAt x := rfl
@[simp] theorem retire_inQueue (x : Nat) : (s.retire).inQueue x = s.inQueue x := rfl
@[simp] theorem retire_base (v : View) : (s.retire).base v = s.base v := by cases v <;> rfl
@[simp] theorem retire_phys (v : View) (l : Nat) : (s.retire).phys v l = s.phys v l := by cases v <;> rfl
@[simp] theorem retire_draw8 (k : Nat) : (s.retire).draw8 k = s.draw8 k := rfl
@[simp] theorem retire_fieldIndex (v : View) (i k : Nat) : (s.retire).fieldIndex v i k = s.fieldIndex v i k := by cases v <;> rfl
@[simp] theorem retire_memRead (x k : Nat) : (s.retire).memRead x k = s.memRead x k := rfl

/-! ## applyReset -/

@[simp] theorem applyReset_cap : (s.applyReset).cap = s.cap := rfl
@[simp] theorem applyReset_params : (s.applyReset).params = s.params := rfl
@[simp] theorem applyReset_byteAt (x : Nat) : (s.applyReset).byteAt x = s.byteAt x := rfl
@[simp] theorem applyReset_inQueue (x : Nat) : (s.applyReset).inQueue x = s.inQueue x := rfl
@[simp] theorem applyReset_draw8 (k : Nat) : (s.applyReset).draw8 k = s.draw8 k := rfl
@[simp] theorem applyReset_memRead (x k : Nat) : (s.applyReset).memRead x k = s.memRead x k := rfl

/-! ## grow -/

@[simp] theorem grow_cap : (s.grow).cap = s.cap := rfl
@[simp] theorem grow_params : (s.grow).params = s.params := rfl
@[simp] theorem grow_byteAt (x : Nat) : (s.grow).byteAt x = s.byteAt x := rfl
@[simp] theorem grow_inQueue (x : Nat) : (s.grow).inQueue x = s.inQueue x := rfl
@[simp] theorem grow_base (v : View) : (s.grow).base v = s.base v := by cases v <;> rfl
@[simp] theorem grow_phys (v : View) (l : Nat) : (s.grow).phys v l = s.phys v l := by cases v <;> rfl
@[simp] theorem grow_draw8 (k : Nat) : (s.grow).draw8 k = s.draw8 k := rfl
@[simp] theorem grow_fieldIndex (v : View) (i k : Nat) : (s.grow).fieldIndex v i k = s.fieldIndex v i k := by cases v <;> rfl
@[simp] theorem grow_memRead (x k : Nat) : (s.grow).memRead x k = s.memRead x k := rfl

/-! ## advanceWindow -/

@[simp] theorem advanceWindow_cap : (s.advanceWindow).cap = s.cap := rfl
@[simp] theorem advanceWindow_params : (s.advanceWindow).params = s.params := rfl
@[simp] theorem advanceWindow_byteAt (x : Nat) : (s.advanceWindow).byteAt x = s.byteAt x := rfl
@[simp] theorem advanceWindow_inQueue (x : Nat) : (s.advanceWindow).inQueue x = s.inQueue x := rfl
@[simp] theorem advanceWindow_draw8 (k : Nat) : (s.advanceWindow).draw8 k = s.draw8 k := rfl
@[simp] theorem advanceWindow_memRead (x k : Nat) : (s.advanceWindow).memRead x k = s.memRead x k := rfl

/-! ## skip -/

@[simp] theorem skip_cap : (s.skip).cap = s.cap := rfl
@[simp] theorem skip_params : (s.skip).params = s.params := rfl
@[simp] theorem skip_byteAt (x : Nat) : (s.skip).byteAt x = s.byteAt x := rfl
@[simp] theorem skip_draw8 (k : Nat) : (s.skip).draw8 k = s.draw8 k := rfl

/-! ## readWin -/

@[simp] theorem readWin_cap : (s.readWin).cap = s.cap := rfl
@[simp] theorem readWin_params : (s.readWin).params = s.params := rfl
@[simp] theorem readWin_byteAt (x : Nat) : (s.readWin).byteAt x = s.byteAt x := rfl
@[simp] theorem readWin_inQueue (x : Nat) : (s.readWin).inQueue x = s.inQueue x := rfl
@[simp] theorem readWin_base (v : View) : (s.readWin).base v = s.base v := by cases v <;> rfl
@[simp] theorem readWin_phys (v : View) (l : Nat) : (s.readWin).phys v l = s.phys v l := by cases v <;> rfl
@[simp] theorem readWin_fieldIndex (v : View) (i k : Nat) : (s.readWin).fieldIndex v i k = s.fieldIndex v i k := by cases v <;> rfl

/-! ## emptyWindow -/

@[simp] theorem emptyWindow_cap : (s.emptyWindow).cap = s.cap := rfl
@[simp] theorem emptyWindow_params : (s.emptyWindow).params = s.params := rfl
@[simp] theorem emptyWindow_byteAt (x : Nat) : (s.emptyWindow).byteAt x = s.byteAt x := rfl
@[simp] theorem emptyWindow_inQueue (x : Nat) : (s.emptyWindow).inQueue x = s.inQueue x := rfl
@[simp] theorem emptyWindow_draw8 (k : Nat) : (s.emptyWindow).draw8 k = s.draw8 k := rfl
@[simp] theorem emptyWindow_memRead (x k : Nat) : (s.emptyWindow).memRead x k = s.memRead x k := rfl

/-! ## setP -/

@[simp] theorem setP_cap (x : BitVec 16) : (s.setP x).cap = s.cap := rfl
@[simp] theorem setP_params (x : BitVec 16) : (s.setP x).params = s.params := rfl
@[simp] theorem setP_byteAt (x : BitVec 16) (y : Nat) : (s.setP x).byteAt y = s.byteAt y := rfl
@[simp] theorem setP_inQueue (x : BitVec 16) (y : Nat) : (s.setP x).inQueue y = s.inQueue y := rfl
@[simp] theorem setP_base (x : BitVec 16) (v : View) : (s.setP x).base v = s.base v := by cases v <;> rfl
@[simp] theorem setP_phys (x : BitVec 16) (v : View) (l : Nat) : (s.setP x).phys v l = s.phys v l := by cases v <;> rfl
@[simp] theorem setP_draw8 (x : BitVec 16) (k : Nat) : (s.setP x).draw8 k = s.draw8 k := rfl
@[simp] theorem setP_memRead (x : BitVec 16) (y k : Nat) : (s.setP x).memRead y k = s.memRead y k := rfl

/-! ## setWdata -/

@[simp] theorem setWdata_cap (x : Word) : (s.setWdata x).cap = s.cap := rfl
@[simp] theorem setWdata_params (x : Word) : (s.setWdata x).params = s.params := rfl
@[simp] theorem setWdata_byteAt (x : Word) (y : Nat) : (s.setWdata x).byteAt y = s.byteAt y := rfl
@[simp] theorem setWdata_inQueue (x : Word) (y : Nat) : (s.setWdata x).inQueue y = s.inQueue y := rfl
@[simp] theorem setWdata_base (x : Word) (v : View) : (s.setWdata x).base v = s.base v := by cases v <;> rfl
@[simp] theorem setWdata_phys (x : Word) (v : View) (l : Nat) : (s.setWdata x).phys v l = s.phys v l := by cases v <;> rfl
@[simp] theorem setWdata_draw8 (x : Word) (k : Nat) : (s.setWdata x).draw8 k = s.draw8 k := rfl
@[simp] theorem setWdata_fieldIndex (x : Word) (v : View) (i k : Nat) : (s.setWdata x).fieldIndex v i k = s.fieldIndex v i k := by cases v <;> rfl
@[simp] theorem setWdata_memRead (x : Word) (y k : Nat) : (s.setWdata x).memRead y k = s.memRead y k := rfl

/-! ## setXstart -/

@[simp] theorem setXstart_cap (x : Word) : (s.setXstart x).cap = s.cap := rfl
@[simp] theorem setXstart_params (x : Word) : (s.setXstart x).params = s.params := rfl
@[simp] theorem setXstart_byteAt (x : Word) (y : Nat) : (s.setXstart x).byteAt y = s.byteAt y := rfl
@[simp] theorem setXstart_inQueue (x : Word) (y : Nat) : (s.setXstart x).inQueue y = s.inQueue y := rfl
@[simp] theorem setXstart_draw8 (x : Word) (k : Nat) : (s.setXstart x).draw8 k = s.draw8 k := rfl
@[simp] theorem setXstart_memRead (x : Word) (y k : Nat) : (s.setXstart x).memRead y k = s.memRead y k := rfl

/-! ## setProg -/

@[simp] theorem setProg_cap (l : List HostStmt) : (s.setProg l).cap = s.cap := rfl
@[simp] theorem setProg_params (l : List HostStmt) : (s.setProg l).params = s.params := rfl
@[simp] theorem setProg_byteAt (l : List HostStmt) (x : Nat) : (s.setProg l).byteAt x = s.byteAt x := rfl
@[simp] theorem setProg_inQueue (l : List HostStmt) (x : Nat) : (s.setProg l).inQueue x = s.inQueue x := rfl
@[simp] theorem setProg_base (l : List HostStmt) (v : View) : (s.setProg l).base v = s.base v := by cases v <;> rfl
@[simp] theorem setProg_phys (l : List HostStmt) (v : View) (m : Nat) : (s.setProg l).phys v m = s.phys v m := by cases v <;> rfl
@[simp] theorem setProg_draw8 (l : List HostStmt) (k : Nat) : (s.setProg l).draw8 k = s.draw8 k := rfl
@[simp] theorem setProg_fieldIndex (l : List HostStmt) (v : View) (i k : Nat) : (s.setProg l).fieldIndex v i k = s.fieldIndex v i k := by cases v <;> rfl
@[simp] theorem setProg_memRead (l : List HostStmt) (x k : Nat) : (s.setProg l).memRead x k = s.memRead x k := rfl

/-! ## setIncoming -/

@[simp] theorem setIncoming_cap (l : List Byte) : (s.setIncoming l).cap = s.cap := rfl
@[simp] theorem setIncoming_params (l : List Byte) : (s.setIncoming l).params = s.params := rfl
@[simp] theorem setIncoming_byteAt (l : List Byte) (x : Nat) : (s.setIncoming l).byteAt x = s.byteAt x := rfl
@[simp] theorem setIncoming_inQueue (l : List Byte) (x : Nat) : (s.setIncoming l).inQueue x = s.inQueue x := rfl
@[simp] theorem setIncoming_base (l : List Byte) (v : View) : (s.setIncoming l).base v = s.base v := by cases v <;> rfl
@[simp] theorem setIncoming_phys (l : List Byte) (v : View) (m : Nat) : (s.setIncoming l).phys v m = s.phys v m := by cases v <;> rfl
@[simp] theorem setIncoming_draw8 (l : List Byte) (k : Nat) : (s.setIncoming l).draw8 k = s.draw8 k := rfl
@[simp] theorem setIncoming_fieldIndex (l : List Byte) (v : View) (i k : Nat) : (s.setIncoming l).fieldIndex v i k = s.fieldIndex v i k := by cases v <;> rfl
@[simp] theorem setIncoming_memRead (l : List Byte) (x k : Nat) : (s.setIncoming l).memRead x k = s.memRead x k := rfl

/-! ## record -/

@[simp] theorem record_cap (x : Word) : (s.record x).cap = s.cap := rfl
@[simp] theorem record_params (x : Word) : (s.record x).params = s.params := rfl
@[simp] theorem record_byteAt (x : Word) (y : Nat) : (s.record x).byteAt y = s.byteAt y := rfl
@[simp] theorem record_inQueue (x : Word) (y : Nat) : (s.record x).inQueue y = s.inQueue y := rfl
@[simp] theorem record_base (x : Word) (v : View) : (s.record x).base v = s.base v := by cases v <;> rfl
@[simp] theorem record_phys (x : Word) (v : View) (l : Nat) : (s.record x).phys v l = s.phys v l := by cases v <;> rfl
@[simp] theorem record_draw8 (x : Word) (k : Nat) : (s.record x).draw8 k = s.draw8 k := rfl
@[simp] theorem record_fieldIndex (x : Word) (v : View) (i k : Nat) : (s.record x).fieldIndex v i k = s.fieldIndex v i k := by cases v <;> rfl
@[simp] theorem record_memRead (x : Word) (y k : Nat) : (s.record x).memRead y k = s.memRead y k := rfl

/-! ## popTurn -/

@[simp] theorem popTurn_cap : (s.popTurn).cap = s.cap := rfl
@[simp] theorem popTurn_params : (s.popTurn).params = s.params := rfl
@[simp] theorem popTurn_byteAt (x : Nat) : (s.popTurn).byteAt x = s.byteAt x := rfl
@[simp] theorem popTurn_inQueue (x : Nat) : (s.popTurn).inQueue x = s.inQueue x := rfl
@[simp] theorem popTurn_base (v : View) : (s.popTurn).base v = s.base v := by cases v <;> rfl
@[simp] theorem popTurn_phys (v : View) (l : Nat) : (s.popTurn).phys v l = s.phys v l := by cases v <;> rfl
@[simp] theorem popTurn_draw8 (k : Nat) : (s.popTurn).draw8 k = s.draw8 k := rfl
@[simp] theorem popTurn_fieldIndex (v : View) (i k : Nat) : (s.popTurn).fieldIndex v i k = s.fieldIndex v i k := by cases v <;> rfl
@[simp] theorem popTurn_memRead (x k : Nat) : (s.popTurn).memRead x k = s.memRead x k := rfl

/-! ## raise -/

@[simp] theorem raise_cap (c : ErrCode) : (s.raise c).cap = s.cap := by unfold raise; split <;> rfl
@[simp] theorem raise_params (c : ErrCode) : (s.raise c).params = s.params := by unfold raise; split <;> rfl
@[simp] theorem raise_byteAt (c : ErrCode) (x : Nat) : (s.raise c).byteAt x = s.byteAt x := by unfold raise; split <;> rfl
@[simp] theorem raise_inQueue (c : ErrCode) (x : Nat) : (s.raise c).inQueue x = s.inQueue x := by unfold raise; split <;> rfl
@[simp] theorem raise_base (c : ErrCode) (v : View) : (s.raise c).base v = s.base v := by unfold raise; split <;> rfl
@[simp] theorem raise_phys (c : ErrCode) (v : View) (l : Nat) : (s.raise c).phys v l = s.phys v l := by unfold raise; split <;> rfl
@[simp] theorem raise_draw8 (c : ErrCode) (k : Nat) : (s.raise c).draw8 k = s.draw8 k := by unfold raise; split <;> rfl
@[simp] theorem raise_fieldIndex (c : ErrCode) (v : View) (i k : Nat) : (s.raise c).fieldIndex v i k = s.fieldIndex v i k := by unfold raise; split <;> rfl
@[simp] theorem raise_memRead (c : ErrCode) (x k : Nat) : (s.raise c).memRead x k = s.memRead x k := by unfold raise; split <;> rfl

end Sys2Proof.Machine.State
end

