-- ==== Sys2Proof/Laws/Memory.lean ====
section
/-! SUPPORT. Storage: read after write, the canonical form, and that every operation keeps it. -/

namespace Sys2Proof.Machine

namespace Memory

theorem find_insert (a : Nat) (v : Byte) (m : Memory) (x : Nat) :
    (Memory.insert a v m).find x = if a = x then some v else m.find x := by
  induction m with
  | nil => simp [Memory.insert, Memory.find]
  | cons c m ih =>
    obtain ⟨y, b⟩ := c
    by_cases hlt : a < y
    · simp [Memory.insert, Memory.find, hlt]
    · by_cases heq : a = y
      · subst heq
        simp only [Memory.insert, Nat.lt_irrefl, if_false, if_true, Memory.find]
        split <;> rfl
      · simp only [Memory.insert, hlt, heq, if_false, Memory.find, ih]
        by_cases hyx : y = x
        · subst hyx; simp [heq]
        · simp [hyx]

theorem mem_insert {a : Nat} {v : Byte} {m : Memory} {c : Host.Cell} (h : c ∈ Memory.insert a v m) :
    c = (a, v) ∨ c ∈ m := by
  induction m with
  | nil => simpa [Memory.insert] using h
  | cons d m ih =>
    obtain ⟨y, b⟩ := d
    simp only [Memory.insert] at h
    split at h
    · simpa using h
    · split at h
      · rcases List.mem_cons.1 h with h | h
        · exact .inl h
        · exact .inr (List.mem_cons_of_mem _ h)
      · rcases List.mem_cons.1 h with h | h
        · exact .inr (by simp [h])
        · rcases ih h with h | h
          · exact .inl h
          · exact .inr (List.mem_cons_of_mem _ h)

/-- Every write keeps the canonical form. -/
theorem insert_wf (a : Nat) (v : Byte) {m : Memory} (h : m.wf) : Memory.wf (Memory.insert a v m) := by
  induction m with
  | nil => simp [Memory.insert]
  | cons d m ih =>
    obtain ⟨y, b⟩ := d
    obtain ⟨hd, hm⟩ := List.pairwise_cons.1 h
    simp only [Memory.insert]
    split
    · rename_i hlt
      refine List.pairwise_cons.2 ⟨?_, h⟩
      intro c hc
      rcases List.mem_cons.1 hc with rfl | hc
      · exact hlt
      · exact Nat.lt_trans hlt (hd c hc)
    · split
      · rename_i heq
        subst heq
        exact List.pairwise_cons.2 ⟨hd, hm⟩
      · refine List.pairwise_cons.2 ⟨?_, ih hm⟩
        intro c hc
        rcases mem_insert hc with rfl | hc
        · show y < a; omega
        · exact hd c hc

/-- No write lists an index outside a bound that held for every entry and for the index written. -/
theorem insert_inside {a : Nat} {v : Byte} {m : Memory} {n : Nat} (ha : a < n) (h : ∀ c ∈ m, c.1 < n) :
    ∀ c ∈ Memory.insert a v m, c.1 < n := by
  intro c hc
  rcases mem_insert hc with rfl | hc
  · exact ha
  · exact h c hc

theorem find_of_lt {m : Memory} {x : Nat} (h : ∀ c ∈ m, x < c.1) : m.find x = none := by
  induction m with
  | nil => rfl
  | cons d m ih =>
    obtain ⟨y, b⟩ := d
    have hy : x < y := h (y, b) (by simp)
    simp only [Memory.find]
    rw [if_neg (by omega)]
    exact ih fun c hc => h c (List.mem_cons_of_mem _ hc)

/-- Memories in canonical form that hold the same bytes are the same data. -/
theorem wf_ext {m n : Memory} (hm : m.wf) (hn : n.wf) (h : ∀ x, m.find x = n.find x) : m = n := by
  induction m generalizing n with
  | nil =>
    cases n with
    | nil => rfl
    | cons d n => have := h d.1; simp [Memory.find] at this
  | cons c m ih =>
    obtain ⟨x, b⟩ := c
    cases n with
    | nil => have := h x; simp [Memory.find] at this
    | cons d n =>
      obtain ⟨y, e⟩ := d
      obtain ⟨hc, hm'⟩ := List.pairwise_cons.1 hm
      obtain ⟨hd, hn'⟩ := List.pairwise_cons.1 hn
      have hxy : x = y := by
        rcases Nat.lt_trichotomy x y with hlt | heq | hlt
        · have := h x
          rw [find_of_lt (m := (y, e) :: n)] at this
          · simp [Memory.find] at this
          · intro c hc'
            rcases List.mem_cons.1 hc' with rfl | hc'
            · exact hlt
            · exact Nat.lt_trans hlt (hd c hc')
        · exact heq
        · have := h y
          rw [find_of_lt (m := (x, b) :: m)] at this
          · simp [Memory.find] at this
          · intro c hc'
            rcases List.mem_cons.1 hc' with rfl | hc'
            · exact hlt
            · exact Nat.lt_trans hlt (hc c hc')
      subst hxy
      have hbe : b = e := by have := h x; simpa [Memory.find] using this
      subst hbe
      congr 1
      refine ih hm' hn' fun z => ?_
      by_cases hz : x = z
      · subst hz
        rw [find_of_lt hc, find_of_lt hd]
      · have := h z
        simpa [Memory.find, hz] using this

end Memory

namespace State

theorem cap_pos (s : State) : 0 < s.cap := Nat.succ_pos _

theorem cap_le (s : State) : s.cap ≤ 65536 := by
  have := s.capLess1.isLt
  unfold cap
  omega

theorem phys_lt (s : State) (v : View) (l : Nat) : s.phys v l < s.cap := Nat.mod_lt _ s.cap_pos

/-- A written byte reads back; every other byte is as before (20_memory.md R63). -/
theorem byteAt_memWrite (s : State) (a : Nat) (v : Byte) (x : Nat) :
    (s.memWrite a v).byteAt x = if x = a then v else s.byteAt x := by
  simp only [byteAt, memWrite_mem, Memory.find_insert]
  by_cases h : a = x
  · simp [h]
  · simp [h, Ne.symm h]

theorem byteAt_enqueue (s : State) (b : Byte) (x : Nat) :
    (s.enqueue b).byteAt x = if x = (s.qhead + s.qcount) % s.cap then b else s.byteAt x :=
  byteAt_memWrite s _ b x

/-- A read inside the queued region gives the stored byte, whichever access it is (R62). -/
theorem memRead_inside {s : State} {a : Nat} (h : s.inQueue a = true) (k : Nat) : s.memRead a k = s.byteAt a := by
  simp [memRead, h]

/-- A read outside the queued region gives a free byte (R62). -/
theorem memRead_outside {s : State} {a : Nat} (h : s.inQueue a = false) (k : Nat) : s.memRead a k = s.draw8 k := by
  simp [memRead, h]

end State
end Sys2Proof.Machine
end

