-- ==== Sys2Proof/Laws/Operands.lean ====
section
/-! SUPPORT. Fields read and written: what store8, store16 and store32 leave and change, and the values of
fields as numbers. -/

namespace Sys2Proof.Machine.State

/-- A store changes storage and nothing else. -/
theorem store_eq (s : State) (v : View) (i k : Nat) (b : Byte) :
    s.store v i k b = { s with mem := s.mem.insert (s.fieldIndex v i k) b } := rfl

@[simp] theorem store_fieldIndex (s : State) (v w : View) (i j k l : Nat) (b : Byte) :
    (s.store v i k b).fieldIndex w j l = s.fieldIndex w j l := by cases w <;> rfl

@[simp] theorem store_inQueue (s : State) (v : View) (i k : Nat) (b : Byte) (x : Nat) :
    (s.store v i k b).inQueue x = s.inQueue x := rfl

theorem byteAt_store (s : State) (v : View) (i k : Nat) (b : Byte) (x : Nat) :
    (s.store v i k b).byteAt x = if x = s.fieldIndex v i k then b else s.byteAt x :=
  byteAt_memWrite s _ b x

theorem byteAt_store8 (s : State) (v : View) (i : Nat) (x : Byte) (a : Nat) :
    (s.store8 v i x).byteAt a = if a = s.fieldIndex v i 0 then x else s.byteAt a :=
  byteAt_store s v i 0 x a

theorem byteAt_store16 (s : State) (v : View) (i : Nat) (x : BitVec 16) (a : Nat) :
    (s.store16 v i x).byteAt a =
      if a = s.fieldIndex v i 1 then x.extractLsb' 0 8
      else if a = s.fieldIndex v i 0 then x.extractLsb' 8 8 else s.byteAt a := by
  simp only [store16, byteAt_store, store_fieldIndex]

theorem byteAt_store32 (s : State) (v : View) (i : Nat) (x : Word) (a : Nat) :
    (s.store32 v i x).byteAt a =
      if a = s.fieldIndex v i 3 then x.extractLsb' 0 8
      else if a = s.fieldIndex v i 2 then x.extractLsb' 8 8
      else if a = s.fieldIndex v i 1 then x.extractLsb' 16 8
      else if a = s.fieldIndex v i 0 then x.extractLsb' 24 8 else s.byteAt a := by
  simp only [store32, byteAt_store, store_fieldIndex]

theorem store8_eq (s : State) (v : View) (i : Nat) (x : Byte) :
    s.store8 v i x = { s with mem := (s.store8 v i x).mem } := rfl

theorem store16_eq (s : State) (v : View) (i : Nat) (x : BitVec 16) :
    s.store16 v i x = { s with mem := (s.store16 v i x).mem } := rfl

theorem store32_eq (s : State) (v : View) (i : Nat) (x : Word) :
    s.store32 v i x = { s with mem := (s.store32 v i x).mem } := rfl

@[simp] theorem store8_inQueue (s : State) (v : View) (i : Nat) (x : Byte) (a : Nat) :
    (s.store8 v i x).inQueue a = s.inQueue a := by simp only [store8, store_inQueue]

@[simp] theorem store16_inQueue (s : State) (v : View) (i : Nat) (x : BitVec 16) (a : Nat) :
    (s.store16 v i x).inQueue a = s.inQueue a := by simp only [store16, store_inQueue]

@[simp] theorem store32_inQueue (s : State) (v : View) (i : Nat) (x : Word) (a : Nat) :
    (s.store32 v i x).inQueue a = s.inQueue a := by simp only [store32, store_inQueue]

@[simp] theorem store8_fieldIndex (s : State) (v w : View) (i j l : Nat) (x : Byte) :
    (s.store8 v i x).fieldIndex w j l = s.fieldIndex w j l := by simp only [store8, store_fieldIndex]

@[simp] theorem store16_fieldIndex (s : State) (v w : View) (i j l : Nat) (x : BitVec 16) :
    (s.store16 v i x).fieldIndex w j l = s.fieldIndex w j l := by simp only [store16, store_fieldIndex]

@[simp] theorem store32_fieldIndex (s : State) (v w : View) (i j l : Nat) (x : Word) :
    (s.store32 v i x).fieldIndex w j l = s.fieldIndex w j l := by simp only [store32, store_fieldIndex]

/-- A byte of a field whose index is queued is the stored byte (20_memory.md R62). -/
theorem fetch_inside {s : State} {v : View} {i k : Nat} (h : s.inQueue (s.fieldIndex v i k) = true) :
    s.fetch v i k = s.byteAt (s.fieldIndex v i k) := memRead_inside h k

/-- The bytes of a field no wider than CAP have different indices (20_memory.md R61). -/
theorem fieldIndex_ne {s : State} {v : View} {i j k W : Nat} (hW : W ≤ s.cap) (hj : j < W) (hk : k < W)
    (hjk : j ≠ k) : s.fieldIndex v i j ≠ s.fieldIndex v i k := by
  intro h
  simp only [fieldIndex, phys, pOffset] at h
  have h1 := Nat.div_add_mod (s.base v + (s.p.toNat + i + j)) s.cap
  have h2 := Nat.div_add_mod (s.base v + (s.p.toNat + i + k)) s.cap
  rw [h] at h1
  generalize (s.base v + (s.p.toNat + i + j)) / s.cap = A at h1
  generalize (s.base v + (s.p.toNat + i + k)) / s.cap = B at h2
  rcases Nat.lt_trichotomy A B with hl | rfl | hl
  · have := Nat.mul_le_mul_left s.cap (show A + 1 ≤ B from hl)
    rw [Nat.mul_add] at this
    omega
  · omega
  · have := Nat.mul_le_mul_left s.cap (show B + 1 ≤ A from hl)
    rw [Nat.mul_add] at this
    omega

/-- A 16-bit field as a number, most significant byte first (20_memory.md R69). -/
theorem toNat_append16 (a b : Byte) : (a ++ b).toNat = 256 * a.toNat + b.toNat := by
  rw [BitVec.toNat_append, Nat.shiftLeft_eq, Nat.mul_comm]
  exact (Nat.two_pow_add_eq_or_of_lt b.isLt _).symm

/-- A 32-bit field as a number, most significant byte first (20_memory.md R69). -/
theorem toNat_append32 (a b c d : Byte) :
    (a ++ b ++ c ++ d).toNat = 16777216 * a.toNat + 65536 * b.toNat + 256 * c.toNat + d.toNat := by
  have h : ∀ {n : Nat} (x : BitVec n) (y : Byte), (x ++ y).toNat = 256 * x.toNat + y.toNat := by
    intro n x y
    rw [BitVec.toNat_append, Nat.shiftLeft_eq, Nat.mul_comm]
    exact (Nat.two_pow_add_eq_or_of_lt y.isLt _).symm
  rw [h, h, h]
  omega

end Sys2Proof.Machine.State
end

