-- ==== Sys2Proof/Laws/Receiver.lean ====
section
/-! SUPPORT. The receiver's loops: what they keep, how their scans end, and the window of a booted
receiver (43_receiver.md R202 to R211; 10_state.md R32). -/

namespace Sys2Proof.Machine

/-! ## The window of a booted receiver (R32) -/

namespace State

/-- Byte k of a window that starts at the queue's head lies in the queued region. -/
theorem inQueue_head_add {s : State} (hh : s.qhead < s.cap) (hc : s.qcount ≤ s.cap) {k : Nat}
    (hk : k < s.qcount) : s.inQueue ((s.qhead + k) % s.cap) = true := by
  have hp := s.cap_pos
  simp only [inQueue, decide_eq_true_eq]
  by_cases h : s.qhead + k < s.cap
  · rw [Nat.mod_eq_of_lt h, show s.qhead + k + s.cap - s.qhead = k + s.cap by omega, Nat.add_mod_right,
      Nat.mod_eq_of_lt (by omega)]
    exact hk
  · have hm : (s.qhead + k) % s.cap = s.qhead + k - s.cap := by
      rw [Nat.mod_eq_sub_mod (by omega), Nat.mod_eq_of_lt (by omega)]
    rw [hm, show s.qhead + k - s.cap + s.cap - s.qhead = k by omega, Nat.mod_eq_of_lt (by omega)]
    exact hk

/-- The stored bytes the window covers, in order. -/
def winBytes (s : State) : List Byte := (List.range s.wlen).map (fun k => s.byteAt (s.phys .window k))

/-- No byte of the window of a booted receiver is a draw (R32). -/
theorem win_eq_winBytes {s : State} (hb : s.wstart = s.qhead) (hh : s.qhead < s.cap)
    (hc : s.qcount ≤ s.cap) (hl : s.wlen ≤ s.qcount) : s.win = s.winBytes := by
  unfold win winBytes
  refine List.map_congr_left fun k hk => ?_
  rw [List.mem_range] at hk
  refine memRead_inside ?_ k
  have : s.phys .window k = (s.qhead + k) % s.cap := by simp [phys, base, hb]
  rw [this]
  exact inQueue_head_add hh hc (by omega)

theorem win_length (s : State) : s.win.length = s.wlen := by simp [win]

/-- The window's stored bytes depend on the window and on storage only. -/
theorem winBytes_congr {s t : State} (hc : t.cap = s.cap) (hf : t.source = s.source) (hm : t.mem = s.mem)
    (hs : t.wstart = s.wstart) (hl : t.wlen = s.wlen) : t.winBytes = s.winBytes := by
  simp [winBytes, byteAt, phys, base, hc, hf, hm, hs, hl]

end State

/-! ## The loops package their inductions once -/

/-- What every part of a scan keeps, the scan keeps. -/
theorem scan_preserves (P : State → Prop) (hread : ∀ s, P s → P s.readWin)
    (hphase : ∀ s f, P s → P (s.setPhase f)) (hskip : ∀ s, P s → s.wlen ≠ 0 → P s.skip) :
    ∀ n s, P s → P (scan n s).2 := by
  intro n
  induction n with
  | zero => intro s h; exact h
  | succ n ih =>
    intro s h
    simp only [scan]
    split
    · exact h
    · rename_i hw
      split
      · split
        · split
          · exact hphase _ _ (hread _ (hphase _ _ (hread _ (hphase _ _ (hread _ h)))))
          · exact ih _ (hphase _ _ (hskip _ (hread _ (hphase _ _ (hread _ (hphase _ _ (hread _ h))))) hw))
        · exact hread _ (hphase _ _ (hread _ h))
      · exact ih _ (hphase _ _ (hskip _ (hread _ h) hw))

/-- A scan moves W_LEN and q.COUNT down together (R211). -/
theorem scan_balance (n : Nat) (s : State) (h : s.wlen ≤ s.qcount) :
    (scan n s).2.wlen ≤ (scan n s).2.qcount ∧
      (scan n s).2.qcount + s.wlen = s.qcount + (scan n s).2.wlen := by
  refine scan_preserves (fun t => t.wlen ≤ t.qcount ∧ t.qcount + s.wlen = s.qcount + t.wlen) ?_ ?_ ?_ n s
    ⟨h, rfl⟩
  · intro t ht; simpa using ht
  · intro t f ht; simpa using ht
  · intro t ht hw
    simp only [State.skip_wlen, State.skip_qcount]
    omega

/-- A scan only shrinks the window. -/
theorem scan_wlen_le (n : Nat) (s : State) : (scan n s).2.wlen ≤ s.wlen := by
  refine scan_preserves (fun t => t.wlen ≤ s.wlen) ?_ ?_ ?_ n s (Nat.le_refl _)
  · intro t ht; simpa using ht
  · intro t f ht; simpa using ht
  · intro t ht _
    simp only [State.skip_wlen]
    omega

/-- How a scan with passes enough ends (R206): emptied by skips; or short of bytes, in ACCUMULATING; or
accepted, in READY. -/
theorem scan_ends (n : Nat) (s : State) (hn : s.wlen ≤ n) :
    ((scan n s).1 = .emptied ∧ (scan n s).2.wlen = 0
      ∧ (s.wlen ≠ 0 → (scan n s).2.phase = .searching) ∧ (s.wlen = 0 → (scan n s).2 = s)) ∨
    ((scan n s).1 = .needMore ∧ 1 ≤ (scan n s).2.wlen ∧ (scan n s).2.phase = .accumulating) ∨
    ((scan n s).1 = .accepted ∧ 1 ≤ (scan n s).2.wlen ∧ (scan n s).2.phase = .ready) := by
  induction n generalizing s with
  | zero =>
    have h0 : s.wlen = 0 := by omega
    exact .inl ⟨rfl, h0, fun h => absurd h0 h, fun _ => rfl⟩
  | succ n ih =>
    simp only [scan]
    split
    · rename_i h0
      exact .inl ⟨rfl, h0, fun h => absurd h0 h, fun _ => rfl⟩
    · rename_i h0
      have again : ∀ t : State, t.wlen = s.wlen - 1 → t.phase = .searching →
          ((scan n t).1 = .emptied ∧ (scan n t).2.wlen = 0
            ∧ (s.wlen ≠ 0 → (scan n t).2.phase = .searching) ∧ (s.wlen = 0 → (scan n t).2 = s)) ∨
          ((scan n t).1 = .needMore ∧ 1 ≤ (scan n t).2.wlen ∧ (scan n t).2.phase = .accumulating) ∨
          ((scan n t).1 = .accepted ∧ 1 ≤ (scan n t).2.wlen ∧ (scan n t).2.phase = .ready) := by
        intro t ht hp
        rcases ih t (by omega) with ⟨h1, h2, h3, h4⟩ | h | h
        · refine .inl ⟨h1, h2, fun _ => ?_, fun h => absurd h h0⟩
          by_cases hz : t.wlen = 0
          · rw [h4 hz]; exact hp
          · exact h3 hz
        · exact .inr (.inl h)
        · exact .inr (.inr h)
      split
      · split
        · split
          · exact .inr (.inr ⟨rfl, by simp; omega, rfl⟩)
          · exact again _ (by simp) rfl
        · exact .inr (.inl ⟨rfl, by simp; omega, rfl⟩)
      · exact again _ (by simp) rfl

/-- Passes beyond W_LEN change nothing: a scan ends by itself (R210). -/
theorem scan_fuel (n : Nat) (s : State) (hn : s.wlen ≤ n) : scan n s = scan s.wlen s := by
  induction n using Nat.strongRecOn generalizing s with
  | ind n ih =>
    cases n with
    | zero => rw [show s.wlen = 0 by omega]
    | succ n =>
      cases hw : s.wlen with
      | zero => simp [scan, hw]
      | succ m =>
        have key : ∀ t : State, t.wlen = m → scan n t = scan m t := by
          intro t ht
          rw [ih n (by omega) t (by omega), ht]
        have k1 := key ((s.readWin.skip).setPhase .searching) (by simp [hw])
        have k2 := key (((((s.readWin.setPhase .accumulating).readWin.setPhase .validating).readWin).skip).setPhase
          .searching) (by simp [hw])
        simp only [scan, hw, k1, k2]

/-- What every part of an RXINC keeps, it keeps; each `Grow()` finds a queued byte that the window does
not have yet (R202). -/
theorem rxincLoop_preserves (P : State → Prop) (hread : ∀ s, P s → P s.readWin)
    (hphase : ∀ s f, P s → P (s.setPhase f)) (hskip : ∀ s, P s → s.wlen ≠ 0 → P s.skip)
    (hgrow : ∀ s, P s → s.wlen < s.qcount → P s.grow)
    (hreport : ∀ s ok c, P s → P (s.rxReport ok c)) :
    ∀ b s, b + s.wlen ≤ s.qcount → P s → P (rxincLoop b s) := by
  intro b
  induction b with
  | zero => intro s _ h; exact hreport _ _ _ h
  | succ b ih =>
    intro s hb h
    have hs := scan_preserves P hread hphase hskip (s.wlen + 1) s.grow (hgrow s h (by omega))
    have hbal := scan_balance (s.wlen + 1) s.grow (by simp; omega)
    simp only [rxincLoop]
    rcases hsc : scan (s.wlen + 1) s.grow with ⟨e, t⟩
    rw [hsc] at hs hbal
    simp only [State.grow_wlen, State.grow_qcount] at hbal
    cases e
    · exact ih t (by omega) hs
    · exact ih t (by omega) hs
    · exact hreport _ _ _ hs

/-- The same for RXALL, which never skips (R207). -/
theorem rxallLoop_preserves (P : State → Prop) (hread : ∀ s, P s → P s.readWin)
    (hphase : ∀ s f, P s → P (s.setPhase f))
    (hgrow : ∀ s, P s → s.wlen < s.qcount → P s.grow)
    (hreport : ∀ s ok c, P s → P (s.rxReport ok c)) :
    ∀ b s, b + s.wlen ≤ s.qcount → P s → P (rxallLoop b s) := by
  intro b
  induction b with
  | zero => intro s _ h; exact hreport _ _ _ h
  | succ b ih =>
    intro s hb h
    have hg := hgrow s h (by omega)
    simp only [rxallLoop]
    split
    · split
      · exact hreport _ _ _ (hphase _ _ (hread _ (hphase _ _ (hread _ hg))))
      · exact ih _ (by simp; omega) (hread _ (hphase _ _ (hread _ hg)))
    · exact hreport _ _ _ (hphase _ _ (hread _ hg))

/-! ## A receive command says which of four things it does -/

theorem receive_cases {budget : Nat} {loop : Nat → State → State} {s t : State}
    (h : receive budget loop s = .next t) :
    (s.phase = .ready ∧ t = s.rxReport true .ready) ∨
    (s.phase ≠ .ready ∧ s.wlen ≤ s.qcount ∧ budget = 0 ∧ t = s.rxReport false .nodata) ∨
    (s.phase ≠ .ready ∧ s.wlen ≤ s.qcount ∧ budget ≠ 0 ∧ t = loop budget s) := by
  unfold receive at h
  split at h
  · rename_i hr
    exact .inl ⟨hr, by simpa using h.symm⟩
  · rename_i hr
    split at h
    · cases h
    · rename_i hw
      have hw' : s.wlen ≤ s.qcount := by simpa [State.windowBeyond] using hw
      split at h
      · rename_i hb
        exact .inr (.inl ⟨hr, hw', hb, by simpa using h.symm⟩)
      · rename_i hb
        exact .inr (.inr ⟨hr, hw', hb, by simpa using h.symm⟩)

/-- A receive command stops the machine only where the window claims more than the queue holds. -/
theorem receive_next {budget : Nat} {loop : Nat → State → State} {s : State} (h : s.wlen ≤ s.qcount) :
    ∃ t, receive budget loop s = .next t := by
  unfold receive
  split
  · exact ⟨_, rfl⟩
  · have : s.windowBeyond = false := by simpa [State.windowBeyond] using h
    simp only [this, Bool.false_eq_true, if_false]
    split
    · exact ⟨_, rfl⟩
    · exact ⟨_, rfl⟩

/-! ## The reported outcome and the bytes behind the window do not steer a receive command (R214) -/

/-- A scan neither reads nor writes RXOK and RXCODE. -/
theorem scan_rxReport (n : Nat) (s : State) (ok : Bool) (c : RxCode) :
    scan n (s.rxReport ok c) = ((scan n s).1, (scan n s).2.rxReport ok c) := by
  induction n generalizing s with
  | zero => rfl
  | succ n ih =>
    have w1 : (s.rxReport ok c).win = s.win := rfl
    have w2 : ((s.rxReport ok c).readWin.setPhase .accumulating).win = (s.readWin.setPhase .accumulating).win := rfl
    have w3 : (((s.rxReport ok c).readWin.setPhase .accumulating).readWin.setPhase .validating).win =
        ((s.readWin.setPhase .accumulating).readWin.setPhase .validating).win := rfl
    have n1 : (s.rxReport ok c).readWin.skip.setPhase .searching =
        (s.readWin.skip.setPhase .searching).rxReport ok c := rfl
    have n2 : (((s.rxReport ok c).readWin.setPhase .accumulating).readWin.setPhase .validating).readWin.skip.setPhase
        .searching = ((((s.readWin.setPhase .accumulating).readWin.setPhase .validating).readWin.skip).setPhase
        .searching).rxReport ok c := rfl
    simp only [scan, State.rxReport_wlen, State.rxReport_params, State.setPhase_params, State.readWin_params,
      w1, w2, w3, n1, n2, ih]
    by_cases h0 : s.wlen = 0
    · simp only [h0, if_true]
    · by_cases h1 : s.params.predStart s.win = true
      · by_cases h2 : s.params.predLen (s.readWin.setPhase .accumulating).win = true
        · by_cases h3 : s.params.predCrc ((s.readWin.setPhase .accumulating).readWin.setPhase .validating).win = true
          · simp only [h0, h1, h2, h3, if_true, if_false]
            rfl
          · simp only [h0, h1, h2, h3, if_true, if_false, Bool.false_eq_true]
        · simp only [h0, h1, h2, if_true, if_false, Bool.false_eq_true]
          rfl
      · simp only [h0, h1, if_false, Bool.false_eq_true]

/-- The outcome of the last receive command does not steer the next one. -/
theorem rxincLoop_rxReport (b : Nat) (s : State) (ok : Bool) (c : RxCode) :
    rxincLoop b (s.rxReport ok c) = rxincLoop b s := by
  induction b generalizing s with
  | zero => rfl
  | succ b ih =>
    have hg : (s.rxReport ok c).grow = s.grow.rxReport ok c := rfl
    simp only [rxincLoop, State.rxReport_wlen, hg, scan_rxReport]
    rcases scan (s.wlen + 1) s.grow with ⟨e, t⟩
    cases e
    · exact ih t
    · exact ih t
    · rfl

/-- A skip and an append commute: the tail of the queue does not move when its head does (20_memory.md R65,
R66). -/
theorem State.skip_enqueue (s : State) (b : Byte) (hq : s.qcount ≠ 0) :
    (s.enqueue b).skip = s.skip.enqueue b := by
  have h1 : (s.qhead + s.qcount) % s.cap = ((s.qhead + 1) % s.cap + (s.qcount - 1)) % s.cap := by
    rw [Nat.mod_add_mod]
    congr 1
    omega
  have h2 : s.qcount + 1 - 1 = s.qcount - 1 + 1 := by omega
  have e1 : (s.enqueue b).skip = { s with
      mem := s.mem.insert ((s.qhead + s.qcount) % s.cap) b
      qcount := s.qcount + 1 - 1, qhead := (s.qhead + 1) % s.cap
      wstart := (s.wstart + 1) % s.cap, wlen := s.wlen - 1 } := rfl
  have e2 : s.skip.enqueue b = { s with
      mem := s.mem.insert (((s.qhead + 1) % s.cap + (s.qcount - 1)) % s.cap) b
      qcount := s.qcount - 1 + 1, qhead := (s.qhead + 1) % s.cap
      wstart := (s.wstart + 1) % s.cap, wlen := s.wlen - 1 } := rfl
  rw [e1, e2, h1, h2]

end Sys2Proof.Machine
end

