-- ==== Sys2Proof/Laws/Commands.lean ====
section
/-! SUPPORT. What a command can do, said once: an inversion lemma for `exec` and one for `step`, the two
ways a CRC goes, and that each command has a next state. -/

namespace Sys2Proof.Machine

/-! ## CRC (42_wrap_crc.md R181) -/

theorem crcRangeBad_iff {sb e : Nat} : crcRangeBad sb e = true ↔ e < sb ∨ (e - sb) % 4 ≠ 0 := by
  simp [crcRangeBad]

theorem crcRangeBad_false {sb e : Nat} (h1 : sb ≤ e) (h2 : (e - sb) % 4 = 0) : crcRangeBad sb e = false := by
  cases h : crcRangeBad sb e
  · rfl
  · rcases crcRangeBad_iff.1 h with h | h
    · omega
    · exact absurd h2 h

/-- CRC on an ill-formed range. -/
theorem execCrc_bad {s : State} {v : View} {e : Nat} (h : crcRangeBad s.pOffset e = true) :
    execCrc v e s = .next (s.raise .crcRange) := by
  simp only [execCrc, h, if_true]

/-- CRC on a range of whole words. -/
theorem execCrc_ok {s : State} {v : View} {e : Nat} (h : crcRangeBad s.pOffset e = false) :
    execCrc v e s = .next ((s.setRdata ((crcRun s.params.crc
      (s.wordsAt v s.pOffset ((e - s.pOffset) / 4))).setWidth 32)).useDraws (e - s.pOffset)) := by
  simp only [execCrc, h, Bool.false_eq_true, if_false]

/-! ## Storage after a SET -/

/-- SETBOOL's byte: bit b as asked, the others as they were (R158). -/
theorem withBit_getLsbD (x : Byte) {b : Nat} (on : Bool) (hb : b < 8) {n : Nat} (hn : n < 8) :
    (withBit x b on).getLsbD n = if n = b then on else x.getLsbD n := by
  unfold withBit
  by_cases h : n = b
  · subst h
    cases on <;> simp [hn]
  · cases on
    · simp [hn, h]
      intro
      omega
    · simp [hn, h]
      intro
      omega

/-- What holds of a memory and is kept by every write inside [0, CAP) holds after a SET (R150). -/
theorem set_preserves (P : Memory → Prop) {s : State} (hw : ∀ m a b, a < s.cap → P m → P (Memory.insert a b m))
    (h0 : P s.mem) (v : View) (i : Nat) :
    (∀ x, P (s.store8 v i x).mem) ∧ (∀ x, P (s.store16 v i x).mem) ∧ (∀ x, P (s.store32 v i x).mem) := by
  have hf : ∀ k, s.fieldIndex v i k < s.cap := fun k => s.phys_lt v _
  refine ⟨fun x => hw _ _ _ (hf 0) h0, fun x => ?_, fun x => ?_⟩
  · simp only [State.store16, State.store_eq]
    exact hw _ _ _ (hf 1) (hw _ _ _ (hf 0) h0)
  · simp only [State.store32, State.store_eq]
    exact hw _ _ _ (hf 3) (hw _ _ _ (hf 2) (hw _ _ _ (hf 1) (hw _ _ _ (hf 0) h0)))

/-! ## The commands -/

/-- A command that goes on did one of five things: it wrote a result; it raised CRC_RANGE; it stored into
storage, one write after another inside [0, CAP); it ran a receive command; or it ran RXDONE. -/
theorem exec_cases {i : Instr} {s t : State} (h : exec i s = .next t) :
    (i.opcode.writesRdata = true ∧ (∀ v e, i = .crc v e → crcRangeBad s.pOffset e = false)
      ∧ ∃ x d, t = { s with rdata := x, draws := d }) ∨
    (∃ v e, i = .crc v e ∧ crcRangeBad s.pOffset e = true ∧ t = s.raise .crcRange) ∨
    (i.opcode.writesStorage = true ∧ ∃ m d, t = { s with mem := m, draws := d } ∧
      ∀ P : Memory → Prop, (∀ m a b, a < s.cap → P m → P (Memory.insert a b m)) → P s.mem → P m) ∨
    (∃ n, i = .rxinc n ∧ receive (min n s.fresh) rxincLoop s = .next t) ∨
    (i = .rxall ∧ receive s.fresh rxallLoop s = .next t) ∨
    (i = .rxdone ∧ s.wlen ≤ s.qcount ∧
      t = (((s.consume s.wlen).emptyWindow).setPhase .searching).rxReport false .none) := by
  cases i
  case getu8 | geti8 | getu16 | geti16 | getu32 | geti32 | getf32 | getbool | wrap =>
    cases h; exact .inl ⟨rfl, (fun _ _ h => nomatch h), _, _, rfl⟩
  case setu8 v k | seti8 v k =>
    have h' : s.store8 v k s.store8Value = t := by injection h
    subst h'
    exact .inr (.inr (.inl ⟨rfl, _, _, s.store8_eq v k s.store8Value,
      fun P hw h0 => (set_preserves P hw h0 v k).1 s.store8Value⟩))
  case setu16 v k | seti16 v k =>
    have h' : s.store16 v k s.store16Value = t := by injection h
    subst h'
    exact .inr (.inr (.inl ⟨rfl, _, _, s.store16_eq v k s.store16Value,
      fun P hw h0 => (set_preserves P hw h0 v k).2.1 s.store16Value⟩))
  case setu32 v k | seti32 v k | setf32 v k =>
    have h' : s.store32 v k s.store32Value = t := by injection h
    subst h'
    exact .inr (.inr (.inl ⟨rfl, _, _, s.store32_eq v k s.store32Value,
      fun P hw h0 => (set_preserves P hw h0 v k).2.2 s.store32Value⟩))
  case setbool =>
    cases h
    exact .inr (.inr (.inl ⟨rfl, _, _, rfl, fun P hw h0 => hw _ _ _ (s.phys_lt _ _) h0⟩))
  case crc v e =>
    cases hc : crcRangeBad s.pOffset e
    · rw [show exec (.crc v e) s = _ from execCrc_ok hc] at h
      cases h
      exact .inl ⟨rfl, (fun _ _ he => by cases he; exact hc), _, _, rfl⟩
    · rw [show exec (.crc v e) s = _ from execCrc_bad hc] at h
      cases h
      exact .inr (.inl ⟨v, e, rfl, hc, rfl⟩)
  case rxinc n => exact .inr (.inr (.inr (.inl ⟨n, rfl, h⟩)))
  case rxall => exact .inr (.inr (.inr (.inr (.inl ⟨rfl, h⟩))))
  case rxdone =>
    refine .inr (.inr (.inr (.inr (.inr ⟨rfl, ?_⟩))))
    have h' : execRxDone s = .next t := h
    unfold execRxDone at h'
    split at h'
    · cases h'
    · rename_i hw
      exact ⟨by simpa [State.windowBeyond] using hw, by simpa using h'.symm⟩

/-- A command stops the machine only where the window claims more bytes than the queue holds. -/
theorem exec_next {s : State} (hw : s.wlen ≤ s.qcount) (i : Instr) : ∃ t, exec i s = .next t := by
  have hb : s.windowBeyond = false := by simpa [State.windowBeyond] using hw
  cases i
  case crc v e =>
    cases hc : crcRangeBad s.pOffset e
    · exact ⟨_, execCrc_ok hc⟩
    · exact ⟨_, execCrc_bad hc⟩
  case rxinc n => exact receive_next hw
  case rxall => exact receive_next hw
  case rxdone => exact ⟨_, by simp only [exec, execRxDone, hb, Bool.false_eq_true, if_false]; rfl⟩
  all_goals exact ⟨_, rfl⟩

/-! ## The step -/

/-- One step is one turn, and says which (00_scope.md R4). -/
theorem step_cases {s t : State} (h : step s = .next t) :
    (s.nextTurn = .engine ∧ s.pending = none ∧ t = s.popTurn) ∨
    (s.nextTurn = .engine ∧ ∃ w r, s.pending = some w ∧ decode w = .error r
      ∧ t = (s.popTurn.raise .illegalCmd).retire) ∨
    (s.nextTurn = .engine ∧ ∃ w i u, s.pending = some w ∧ decode w = .ok i ∧ exec i s.popTurn = .next u
      ∧ t = u.retire) ∨
    (s.nextTurn = .host ∧ t = s.popTurn.hostTurn) ∨
    (s.nextTurn = .producer ∧ t = s.popTurn.producerTurn) ∨
    (s.nextTurn = .reset ∧ t = s.popTurn.applyReset) ∨
    (s.nextTurn = .idle ∧ t = s.popTurn) := by
  unfold step at h
  cases hn : s.nextTurn <;> rw [hn] at h
  · cases hp : s.pending with
    | none =>
      have hp' : s.popTurn.pending = none := hp
      simp only [engineTurn, hp'] at h
      exact .inl ⟨rfl, rfl, by simpa using h.symm⟩
    | some w =>
      have hp' : s.popTurn.pending = some w := hp
      simp only [engineTurn, hp', runWord] at h
      cases hd : decode w with
      | error r =>
        rw [hd] at h
        exact .inr (.inl ⟨rfl, w, r, rfl, hd, by simpa using h.symm⟩)
      | ok i =>
        rw [hd] at h
        cases hx : exec i s.popTurn with
        | next u =>
          simp only [hx, retired] at h
          exact .inr (.inr (.inl ⟨rfl, w, i, u, rfl, hd, hx, by simpa using h.symm⟩))
        | fault f => simp [hx, retired] at h
        | refused r => simp [hx, retired] at h
  · exact .inr (.inr (.inr (.inl ⟨rfl, by simpa using h.symm⟩)))
  · exact .inr (.inr (.inr (.inr (.inl ⟨rfl, by simpa using h.symm⟩))))
  · exact .inr (.inr (.inr (.inr (.inr (.inl ⟨rfl, by simpa using h.symm⟩)))))
  · exact .inr (.inr (.inr (.inr (.inr (.inr ⟨rfl, by simpa using h.symm⟩)))))

end Sys2Proof.Machine
end

