-- ==== Sys2Proof/Laws/Decode.lean ====
section
/-! SUPPORT. The fields of a word of format C, and the opcode codes. -/

namespace Sys2Proof

section fields
variable (o : BitVec 6) (v : BitVec 1) (b : BitVec 3) (i : BitVec 16)

@[simp] theorem opcField_formatC : opcField (formatC o v b i) = o := by
  ext k hk
  simp [opcField, formatC, BitVec.getElem_extractLsb']
  grind

@[simp] theorem viewField_formatC : viewField (formatC o v b i) = v := by
  ext k hk
  simp [viewField, formatC, BitVec.getElem_extractLsb']
  grind

@[simp] theorem reservedHi_formatC : reservedHi (formatC o v b i) = 0#1 := by
  ext k hk
  simp [reservedHi, formatC, BitVec.getElem_extractLsb']
  grind

@[simp] theorem bitField_formatC : bitField (formatC o v b i) = b := by
  ext k hk
  simp [bitField, formatC, BitVec.getElem_extractLsb']
  grind

@[simp] theorem reservedLo_formatC : reservedLo (formatC o v b i) = 0#5 := by
  ext k hk
  simp [reservedLo, formatC, BitVec.getElem_extractLsb']
  grind

@[simp] theorem immField_formatC : immField (formatC o v b i) = i := by
  ext k hk
  simp [immField, formatC, BitVec.getElem_extractLsb']
  grind

end fields

/-- Words with the same six fields are the same word. -/
theorem word_ext {w x : Word} (h1 : opcField w = opcField x) (h2 : viewField w = viewField x)
    (h3 : reservedHi w = reservedHi x) (h4 : bitField w = bitField x) (h5 : reservedLo w = reservedLo x)
    (h6 : immField w = immField x) : w = x := by
  have bits : ∀ {n lo : Nat}, w.extractLsb' lo n = x.extractLsb' lo n →
      ∀ k, lo ≤ k → k < lo + n → w.getLsbD k = x.getLsbD k := by
    intro n lo h k hlo hhi
    have := congrArg (fun y : BitVec n => y.getLsbD (k - lo)) h
    simpa [show k - lo < n by omega, show lo + (k - lo) = k by omega] using this
  refine BitVec.eq_of_getLsbD_eq fun k hk => ?_
  by_cases c1 : k < 16
  · exact bits h6 k (by omega) (by omega)
  by_cases c2 : k < 21
  · exact bits h5 k (by omega) (by omega)
  by_cases c3 : k < 24
  · exact bits h4 k (by omega) (by omega)
  by_cases c4 : k < 25
  · exact bits h3 k (by omega) (by omega)
  by_cases c5 : k < 26
  · exact bits h2 k (by omega) (by omega)
  · exact bits h1 k (by omega) (by omega)

/-- A word is the format-C word of its fields once its reserved bits are 0. -/
theorem formatC_of_fields (w : Word) (h1 : reservedHi w = 0#1) (h2 : reservedLo w = 0#5) :
    formatC (opcField w) (viewField w) (bitField w) (immField w) = w :=
  word_ext (by simp) (by simp) (by simp [h1]) (by simp) (by simp [h2]) (by simp)

/-- A format-C word as a number: each field at its place (30_encoding.md R101). -/
theorem toNat_formatC (o : BitVec 6) (v : BitVec 1) (b : BitVec 3) (i : BitVec 16) :
    (formatC o v b i).toNat = o.toNat * 2 ^ 26 + v.toNat * 2 ^ 25 + b.toNat * 2 ^ 21 + i.toNat := by
  have h : ∀ {m n : Nat} (x : BitVec m) (y : BitVec n), (x ++ y).toNat = x.toNat * 2 ^ n + y.toNat := by
    intro m n x y
    rw [BitVec.toNat_append, Nat.shiftLeft_eq, Nat.mul_comm]
    exact (Nat.two_pow_add_eq_or_of_lt y.isLt _).symm
  unfold formatC
  rw [h, h, h, h, h]
  simp only [BitVec.toNat_ofNat]
  omega

@[simp] theorem Opcode.ofCode_code (op : Opcode) : Opcode.ofCode op.code = some op := by
  cases op <;> rfl

theorem Opcode.code_of_ofCode {c : BitVec 6} {op : Opcode} (h : Opcode.ofCode c = some op) : op.code = c := by
  revert c op
  decide

@[simp] theorem View.ofBit_bit (v : View) : View.ofBit v.bit = v := by cases v <;> rfl

@[simp] theorem View.bit_ofBit (v : BitVec 1) : (View.ofBit v).bit = v := by revert v; decide

/-- What `decode` answers, by cases (30_encoding.md R98, R100). -/
theorem decode_eq_ok {w : Word} {i : Instr} :
    decode w = .ok i ↔ ∃ op, Opcode.ofCode (opcField w) = some op ∧ reservedSet w = false
      ∧ unusedSet op w = false
      ∧ i = op.build (View.ofBit (viewField w)) (bitField w).toNat (immField w).toNat := by
  unfold decode
  cases h : Opcode.ofCode (opcField w) with
  | none => simp
  | some op =>
    simp only [Option.some.injEq, exists_eq_left']
    cases hr : reservedSet w <;> cases hu : unusedSet op w <;> simp
    exact eq_comm

end Sys2Proof
end

