-- ==== Sys2Proof/Laws/Flags.lean ====
section
/-! SUPPORT. STATUS read at its bits (10_state.md R23), and the slot of a register offset (R20, R21). -/

namespace Sys2Proof.Machine

section status
variable (ec : BitVec 3) (er : Bool) (rc : BitVec 3) (ph : BitVec 2) (ok bu : Bool)

theorem statusOf_busy : (statusOf ec er rc ph ok bu).getLsbD 0 = bu := by
  revert ec er rc ph ok bu; decide +kernel

theorem statusOf_rxok : (statusOf ec er rc ph ok bu).getLsbD 1 = ok := by
  revert ec er rc ph ok bu; decide +kernel

theorem statusOf_phase : (statusOf ec er rc ph ok bu).extractLsb' 2 2 = ph := by
  revert ec er rc ph ok bu; decide +kernel

theorem statusOf_rxcode : (statusOf ec er rc ph ok bu).extractLsb' 4 3 = rc := by
  revert ec er rc ph ok bu; decide +kernel

theorem statusOf_reserved : (statusOf ec er rc ph ok bu).getLsbD 7 = false := by
  revert ec er rc ph ok bu; decide +kernel

theorem statusOf_err : (statusOf ec er rc ph ok bu).getLsbD 8 = er := by
  revert ec er rc ph ok bu; decide +kernel

theorem statusOf_ecode : (statusOf ec er rc ph ok bu).extractLsb' 9 3 = ec := by
  revert ec er rc ph ok bu; decide +kernel

theorem statusOf_high : (statusOf ec er rc ph ok bu).extractLsb' 12 20 = 0#20 := by
  revert ec er rc ph ok bu; decide +kernel

end status

/-- A STATUS read gives BUSY at bit 0, whether it is 0 or 1 (R23, R44). -/
theorem readValue_status_busy (s : State) : (s.readValue .status).getLsbD 0 = s.busy := by
  cases h : s.busy
  · simp only [State.readValue, h]
    exact (statusOf_busy _ _ _ _ _ _).trans h
  · simp only [State.readValue, h]
    exact statusOf_busy _ _ _ _ _ _

/-- Bits [1:0] of an offset are ignored: its slot is the offset divided by 4 (R21). -/
theorem offset_slot (off : BitVec 6) : (off.extractLsb' 2 4).toNat = off.toNat / 4 := by
  revert off; decide

end Sys2Proof.Machine
end

