-- ==== Sys2Proof/Laws/PerInstr.lean ====
section
/-! SUPPORT. Facts about every command as syntax, one lemma per constructor. -/

namespace Sys2Proof.Laws

/-- The reserved bits [24] and [20:16] are 0 in every command's word (30_encoding.md R95). -/
def ReservedBitsZero.Statement (i : Instr) : Prop := reservedSet (encode i) = false

theorem ReservedBitsZero.any (i : Instr) : reservedSet (encode i) = false := by
  simp [reservedSet, encode]

theorem ReservedBitsZero.getu8 (v : View) (i : Nat) : ReservedBitsZero.Statement (.getu8 v i) := ReservedBitsZero.any _
theorem ReservedBitsZero.geti8 (v : View) (i : Nat) : ReservedBitsZero.Statement (.geti8 v i) := ReservedBitsZero.any _
theorem ReservedBitsZero.getu16 (v : View) (i : Nat) : ReservedBitsZero.Statement (.getu16 v i) := ReservedBitsZero.any _
theorem ReservedBitsZero.geti16 (v : View) (i : Nat) : ReservedBitsZero.Statement (.geti16 v i) := ReservedBitsZero.any _
theorem ReservedBitsZero.getu32 (v : View) (i : Nat) : ReservedBitsZero.Statement (.getu32 v i) := ReservedBitsZero.any _
theorem ReservedBitsZero.geti32 (v : View) (i : Nat) : ReservedBitsZero.Statement (.geti32 v i) := ReservedBitsZero.any _
theorem ReservedBitsZero.getf32 (v : View) (i : Nat) : ReservedBitsZero.Statement (.getf32 v i) := ReservedBitsZero.any _
theorem ReservedBitsZero.getbool (v : View) (b i : Nat) : ReservedBitsZero.Statement (.getbool v b i) := ReservedBitsZero.any _
theorem ReservedBitsZero.setu8 (v : View) (i : Nat) : ReservedBitsZero.Statement (.setu8 v i) := ReservedBitsZero.any _
theorem ReservedBitsZero.seti8 (v : View) (i : Nat) : ReservedBitsZero.Statement (.seti8 v i) := ReservedBitsZero.any _
theorem ReservedBitsZero.setu16 (v : View) (i : Nat) : ReservedBitsZero.Statement (.setu16 v i) := ReservedBitsZero.any _
theorem ReservedBitsZero.seti16 (v : View) (i : Nat) : ReservedBitsZero.Statement (.seti16 v i) := ReservedBitsZero.any _
theorem ReservedBitsZero.setu32 (v : View) (i : Nat) : ReservedBitsZero.Statement (.setu32 v i) := ReservedBitsZero.any _
theorem ReservedBitsZero.seti32 (v : View) (i : Nat) : ReservedBitsZero.Statement (.seti32 v i) := ReservedBitsZero.any _
theorem ReservedBitsZero.setf32 (v : View) (i : Nat) : ReservedBitsZero.Statement (.setf32 v i) := ReservedBitsZero.any _
theorem ReservedBitsZero.setbool (v : View) (b i : Nat) : ReservedBitsZero.Statement (.setbool v b i) := ReservedBitsZero.any _
theorem ReservedBitsZero.wrap : ReservedBitsZero.Statement .wrap := ReservedBitsZero.any _
theorem ReservedBitsZero.crc (v : View) (i : Nat) : ReservedBitsZero.Statement (.crc v i) := ReservedBitsZero.any _
theorem ReservedBitsZero.rxinc (n : Nat) : ReservedBitsZero.Statement (.rxinc n) := ReservedBitsZero.any _
theorem ReservedBitsZero.rxall : ReservedBitsZero.Statement .rxall := ReservedBitsZero.any _
theorem ReservedBitsZero.rxdone : ReservedBitsZero.Statement .rxdone := ReservedBitsZero.any _

end Sys2Proof.Laws
end

