-- ==== Sys2Proof/Machine/HostProgram.lean ====
section
/-! DEFINITION. Host programs: the register names, `cmd`, and the pseudo-instructions with their
expansions (30_encoding.md R102, R103; 70_reset_and_hazards.md R282). -/

namespace Sys2Proof.Machine

/-- The byte offset of a register (R20). -/
def PortReg.offset : PortReg → BitVec 6
  | .cmd => 0x00
  | .status => 0x04
  | .p => 0x08
  | .wdata => 0x0C
  | .rdata => 0x10
  | .xstart => 0x14
  | .wstart => 0x18
  | .wlen => 0x1C
  | .rxtime => 0x20
  | .capacity => 0x24
  | .reserved => 0x28

/-- `wr REG, value`. -/
def wrReg (r : PortReg) (v : Word) : HostStmt := .wr r.offset v

/-- `rd REG`. -/
def rdReg (r : PortReg) : HostStmt := .rd r.offset

/-- `cmd COMMAND` is `wr CMD, encoding(COMMAND)`. For an operand that does not fit its field, here and in the
pseudo-instructions, see log 25. -/
def cmdStmt (i : Instr) : HostStmt := wrReg .cmd (encode i)

/-- `get.<t> v, p, i` and `getbool`, with the GET command c. -/
def pseudoGet (p : Word) (c : Instr) : List HostStmt :=
  [wrReg .p p, cmdStmt c, .wait, rdReg .rdata]

/-- `set.<t> v, p, i, value` and `setbool`, with the SET command c. -/
def pseudoSet (p value : Word) (c : Instr) : List HostStmt :=
  [wrReg .p p, wrReg .wdata value, cmdStmt c, .wait]

/-- `wrap x`. -/
def pseudoWrap (x : Word) : List HostStmt := [wrReg .wdata x, cmdStmt .wrap, .wait, rdReg .rdata]

/-- `crc v, s, e`. -/
def pseudoCrc (v : View) (s : Word) (e : Nat) : List HostStmt :=
  [wrReg .p s, cmdStmt (.crc v e), .wait, rdReg .rdata]

/-- `rxinc n`. -/
def pseudoRxInc (n : Nat) : List HostStmt := [cmdStmt (.rxinc n), .wait, rdReg .status]

/-- `rxall`. -/
def pseudoRxAll : List HostStmt := [cmdStmt .rxall, .wait, rdReg .status]

/-- `rxdone`; issued once after reset it is the boot sequence's step 3 (R282). -/
def pseudoRxDone : List HostStmt := [cmdStmt .rxdone, .wait]

/-- `view x`. -/
def pseudoView (x : Word) : List HostStmt := [wrReg .xstart x]

/-- `clrerr`. -/
def pseudoClrErr : List HostStmt := [wrReg .status 0x100]

end Sys2Proof.Machine
end

