-- ==== Sys2Proof/Tests/Slice0.lean ====
section
/-! SUPPORT. The model's own tests. Expected results are those of spec/95_test_vectors.md (named T-...) or of
the rule a test cites. The `witness_` theorems show, for each obligation with hypotheses, values that meet all
of them together. -/

open Sys2Proof Sys2Proof.Machine

namespace Sys2Proof.Tests

-- Each `decide +kernel` waits for the declarations before it: one after another they need one thread.
set_option Elab.async false

/-! ## Helpers -/

def bytes (l : List Nat) : List Byte := l.map (BitVec.ofNat 8)

/-- The example instance with capacity cap, the given queue and window, and storage bytes from index 0 on. -/
def inst (cap head count wlen : Nat) (m : List Nat) : State :=
  { State.reset with
    capLess1 := Fin.ofNat 65536 (cap - 1), collab := .reference
    qhead := head, qcount := count, wstart := head, wlen := wlen
    mem := (bytes m).zipIdx.map (fun x => (x.2, x.1)) }

def after : Host.Outcome State Fault Refusal → Option State
  | .next t => some t
  | .fault _ => none
  | .refused _ => none

/-- The state after a command (the state before it, where the command stops). -/
def outOf (i : Instr) (s : State) : State := (after (exec i s)).getD s

theorem exec_outOf {i : Instr} {s : State} (h : (after (exec i s)).isSome = true) :
    exec i s = .next (outOf i s) := by
  cases hx : exec i s <;> simp_all [after, outOf]

/-- The state after a step. -/
def stepOf (s : State) : State := (after (step s)).getD s

theorem step_stepOf {s : State} (h : (after (step s)).isSome = true) : step s = .next (stepOf s) := by
  cases hx : step s <;> simp_all [after, stepOf]

def rdataOf (i : Instr) (s : State) : Word := (outOf i s).rdata

def memOf (i : Instr) (s : State) : List Nat := (outOf i s).mem.map (fun c => c.2.toNat)

/-- q.HEAD, q.COUNT, W_START, W_LEN, STATUS: the columns of 95_test_vectors.md 3.5. -/
def columns (s : State) : List Nat := [s.qhead, s.qcount, s.wstart, s.wlen, s.status.toNat]

def rx (i : Instr) (s : State) : List Nat := columns (outOf i s)

/-- The invariant, from its thirteen conditions as one decidable proposition. -/
theorem inv_of {s : State} (h : s.wstart < s.cap ∧ s.xstart < s.cap ∧ s.qhead < s.cap ∧ s.qcount ≤ s.cap ∧
    s.wlen ≤ s.qcount ∧ s.phase ≠ .validating ∧ (s.wlen = 0 → s.phase = .searching) ∧
    (s.phase = .ready ↔ s.rxcode = .ready) ∧ (s.rxok = true ↔ s.rxcode = .ready) ∧
    (s.busy = true ↔ s.pending.isSome = true) ∧ (s.err = false ↔ s.ecode = .none) ∧ s.mem.wf ∧
    ∀ c ∈ s.mem, c.1 < s.cap) : s.Inv := by
  obtain ⟨h1, h2, h3, h4, h5, h6, h7, h8, h9, h10, h11, h12, h13⟩ := h
  exact ⟨h1, h2, h3, h4, h5, h6, h7, h8, h9, h10, h11, h12, h13⟩

/-- 3.2's start state. -/
def g0 : State := inst 8 0 8 0 [0x80, 0, 0, 0, 0x7F, 0xFF, 0xFF, 0xFF]

/-- 3.3's start state. -/
def s0 : State := inst 8 6 8 0 [0xA2, 0xA3, 0xA4, 0xA5, 0xA6, 0xA7, 0xA0, 0xA1]

/-- T-WC-3's start state. -/
def c0 : State := inst 8 0 8 0 [0x31, 0x32, 0x33, 0x34, 0x35, 0x36, 0x37, 0x38]

/-- GOOD of 95_test_vectors.md section 1, queued. -/
def good : State := inst 16 0 8 0 [0x55, 0x55, 0, 2, 1, 2, 0x76, 0xF3]

/-- BAD of 95_test_vectors.md section 1, queued. -/
def bad : State := inst 16 0 8 0 [0x55, 0x55, 0, 2, 1, 0xFF, 0x76, 0xF3]

/-- The first 5 bytes of GOOD, queued. -/
def part : State := inst 16 0 5 0 [0x55, 0x55, 0, 2, 1]

/-- GOOD accepted (T-RX-1). -/
def held : State := { inst 16 0 8 8 [0x55, 0x55, 0, 2, 1, 2, 0x76, 0xF3] with
  phase := .ready, rxok := true, rxcode := .ready }

/-- A command word is pending and it is the Engine's turn. -/
def pendingIn (s : State) (w : Word) : State :=
  { s with pending := some w, busy := true, sched := [.engine] }

/-! ## WellFormed: one ill-formed command per check (R93, R94) -/

theorem test_wf_imm_bound : Instr.wf (.getu8 .window 65535) = true ∧ Instr.wf (.getu8 .window 65536) = false ∧
    Instr.wf (.setf32 .aux 65536) = false ∧ Instr.wf (.crc .window 65536) = false ∧
    Instr.wf (.rxinc 65536) = false := by decide

theorem test_wf_bit_bound : Instr.wf (.getbool .window 7 65535) = true ∧ Instr.wf (.getbool .window 8 0) = false ∧
    Instr.wf (.setbool .aux 8 0) = false ∧ Instr.wf (.getbool .aux 0 65536) = false ∧
    Instr.wf (.setbool .window 0 65536) = false := by decide

/-! ## Decoding: words written out from the fields OPC V 0 B 00000 I of R90 -/

theorem test_decode_get :
    decode 0b000001_0_0_000_00000_0000000000000000 = .ok (.getu8 .window 0) ∧
    decode 0b000010_1_0_000_00000_0000000000000100 = .ok (.geti8 .aux 4) ∧
    decode 0b000011_0_0_000_00000_0000000000000010 = .ok (.getu16 .window 2) ∧
    decode 0b000100_0_0_000_00000_1111111111111111 = .ok (.geti16 .window 65535) ∧
    decode 0b000101_1_0_000_00000_1000000000000000 = .ok (.getu32 .aux 32768) ∧
    decode 0b000110_0_0_000_00000_0000000000000110 = .ok (.geti32 .window 6) ∧
    decode 0b000111_0_0_000_00000_0000000000000001 = .ok (.getf32 .window 1) ∧
    decode 0b001000_1_0_111_00000_0000000000000011 = .ok (.getbool .aux 7 3) := by decide

theorem test_decode_set :
    decode 0b001001_0_0_000_00000_0000000000000010 = .ok (.setu8 .window 2) ∧
    decode 0b001010_0_0_000_00000_0000000000000000 = .ok (.seti8 .window 0) ∧
    decode 0b001011_1_0_000_00000_0000000000000001 = .ok (.setu16 .aux 1) ∧
    decode 0b001100_0_0_000_00000_0000000100000000 = .ok (.seti16 .window 256) ∧
    decode 0b001101_1_0_000_00000_0000000000000000 = .ok (.setu32 .aux 0) ∧
    decode 0b001110_0_0_000_00000_0000000000000101 = .ok (.seti32 .window 5) ∧
    decode 0b001111_0_0_000_00000_0000000000000010 = .ok (.setf32 .window 2) ∧
    decode 0b010000_0_0_001_00000_0000000000000100 = .ok (.setbool .window 1 4) := by decide

theorem test_decode_rest :
    decode 0b010001_0_0_000_00000_0000000000000000 = .ok .wrap ∧
    decode 0b010010_1_0_000_00000_0000000000001000 = .ok (.crc .aux 8) ∧
    decode 0b011000_0_0_000_00000_1111111111111111 = .ok (.rxinc 65535) ∧
    decode 0b011001_0_0_000_00000_0000000000000000 = .ok .rxall ∧
    decode 0b011010_0_0_000_00000_0000000000000000 = .ok .rxdone := by decide

/-- T-ENC-9 to T-ENC-18, with the bounds of the unassigned opcode ranges of R98. -/
theorem test_decode_illegal :
    ∀ w ∈ [0x00000000, 0x04200000, 0x68000001, 0x62000000, 0x4C000000, 0x5C000000, 0x6C000000, 0xFC000000,
      0x05000000, 0x04010000, 0x44000003, 0x24E00000], decodeTableWord 32 w = none := by decide

/-- R101's example lines; a field the command does not use, or that does not fit, is no line. -/
theorem test_assemble :
    (assemble { op := .getu16, v := some 0, i := some 2 }).map encode = some 0x0C000002 ∧
    (assemble { op := .getbool, v := some 1, b := some 7, i := some 3 }).map encode = some 0x22E00003 ∧
    (assemble { op := .rxinc, i := some 8 }).map encode = some 0x60000008 ∧
    (assemble { op := .rxdone }).map encode = some 0x68000000 ∧
    assemble { op := .getu8, b := some 1 } = none ∧ assemble { op := .rxinc, i := some 65536 } = none := by decide

/-! ## GET (3.2) -/

theorem test_getu8 : rdataOf (.getu8 .window 0) g0 = 0x80 := by decide +kernel
theorem test_geti8 : rdataOf (.geti8 .window 0) g0 = 0xFFFFFF80 ∧ rdataOf (.geti8 .window 4) g0 = 0x7F := by
  decide +kernel
theorem test_getu16 : rdataOf (.getu16 .window 7) g0 = 0xFF80 ∧
    rdataOf (.getu16 .window 2) (g0.setP 5) = 0xFF80 := by decide +kernel
theorem test_geti16 : rdataOf (.geti16 .window 0) g0 = 0xFFFF8000 ∧
    rdataOf (.geti16 .window 4) g0 = 0x7FFF := by decide +kernel
theorem test_getu32 : rdataOf (.getu32 .window 6) g0 = 0xFFFF8000 := by decide +kernel
theorem test_geti32 : rdataOf (.geti32 .window 4) g0 = 0x7FFFFFFF ∧
    rdataOf (.geti32 .window 6) g0 = 0xFFFF8000 := by decide +kernel
theorem test_getf32 : rdataOf (.getf32 .window 0) g0 = 0x80000000 ∧
    rdataOf (.getf32 .window 4) g0 = 0x7FFFFFFF := by decide +kernel
theorem test_getbool : rdataOf (.getbool .window 7 0) g0 = 1 ∧ rdataOf (.getbool .window 0 0) g0 = 0 := by
  decide +kernel

/-- T-GET-10: the sum `p + i` is not truncated to 16 bits. -/
theorem test_get_exact_sum :
    rdataOf (.getu8 .window 0xFFFF) ((inst 6 0 6 0 [0, 1, 2, 3, 4, 5]).setP 0xFFFF) = 0 := by decide +kernel

/-- T-GET-11. -/
theorem test_get_view1 : rdataOf (.getu16 .aux 0) (g0.setXstart 4) = 0x7FFF := by decide +kernel

/-- T-GET-12. -/
theorem test_get_small_cap : rdataOf (.getu32 .window 0) (inst 1 0 1 0 [0x5A]) = 0x5A5A5A5A ∧
    rdataOf (.geti16 .window 1) (inst 2 0 2 0 [0x12, 0x34]) = 0x3412 := by decide +kernel

/-- T-GET-13: a byte outside the queue is a draw. -/
theorem test_get_outside : rdataOf (.getu8 .window 4) { g0 with qcount := 4 } =
    (Config.draw8 0 0).setWidth 32 := rfl

/-! ## SET (3.3) -/

theorem test_setu8 : memOf (.setu8 .window 2) (s0.setWdata 0x1234) =
    [0x34, 0xA3, 0xA4, 0xA5, 0xA6, 0xA7, 0xA0, 0xA1] := by decide +kernel
theorem test_seti8 : memOf (.seti8 .window 0) (s0.setWdata 0xFFFFFF80) =
    [0xA2, 0xA3, 0xA4, 0xA5, 0xA6, 0xA7, 0x80, 0xA1] := by decide +kernel
theorem test_setu16 : memOf (.setu16 .window 1) (s0.setWdata 0xBEEF) =
    [0xEF, 0xA3, 0xA4, 0xA5, 0xA6, 0xA7, 0xA0, 0xBE] := by decide +kernel
theorem test_seti16 : memOf (.seti16 .window 1) (s0.setWdata 0xFFFF8000) =
    [0x00, 0xA3, 0xA4, 0xA5, 0xA6, 0xA7, 0xA0, 0x80] := by decide +kernel
theorem test_setu32 : memOf (.setu32 .window 1) (s0.setWdata 0x11223344) =
    [0x22, 0x33, 0x44, 0xA5, 0xA6, 0xA7, 0xA0, 0x11] := by decide +kernel
theorem test_setu32_view1 : memOf (.setu32 .aux 0) ((s0.setXstart 5).setWdata 0xDEADBEEF) =
    [0xEF, 0xA3, 0xA4, 0xA5, 0xA6, 0xDE, 0xAD, 0xBE] := by decide +kernel
theorem test_seti32 : memOf (.seti32 .window 0) (s0.setWdata 0x80000001) =
    [0x00, 0x01, 0xA4, 0xA5, 0xA6, 0xA7, 0x80, 0x00] := by decide +kernel
theorem test_setf32 : memOf (.setf32 .window 2) (s0.setWdata 0x7FC00001) =
    [0x7F, 0xC0, 0x00, 0x01, 0xA6, 0xA7, 0xA0, 0xA1] := by decide +kernel

/-- T-SET-7: only WDATA[0] counts. -/
theorem test_setbool : memOf (.setbool .window 3 4) (s0.setWdata 1) =
      [0xA2, 0xA3, 0xAC, 0xA5, 0xA6, 0xA7, 0xA0, 0xA1] ∧
    memOf (.setbool .window 5 4) (s0.setWdata 0xFFFFFFFE) =
      [0xA2, 0xA3, 0x84, 0xA5, 0xA6, 0xA7, 0xA0, 0xA1] := by decide +kernel

/-- T-SET-8: true then false does not restore a byte whose bit was 1. -/
theorem test_setbool_not_restored :
    memOf (.setbool .window 2 4) ((outOf (.setbool .window 2 4) (s0.setWdata 1)).setWdata 0) =
      [0xA2, 0xA3, 0xA0, 0xA5, 0xA6, 0xA7, 0xA0, 0xA1] := by decide +kernel

/-- T-SET-9, T-SET-10: the last write wins where CAP is smaller than the field. -/
theorem test_set_small_cap : memOf (.setu16 .window 0) ((inst 1 0 1 0 [0x5A]).setWdata 0x1234) = [0x34] ∧
    memOf (.setu32 .window 0) ((inst 2 0 2 0 [0, 0]).setWdata 0xAABBCCDD) = [0xCC, 0xDD] := by decide +kernel

/-! ## WRAP and CRC (3.4) -/

/-- T-WC-1. -/
theorem test_wrap : rdataOf .wrap ((inst 8 0 0 0 []).setWdata 0xFFFFFFFF) = 7 ∧
    rdataOf .wrap ((inst 65536 0 0 0 []).setWdata 0x12345678) = 0x5678 ∧
    rdataOf .wrap ((inst 5 0 0 0 []).setWdata 0x80000000) = 3 := by decide +kernel

/-- T-WC-2. -/
theorem test_crc16_check_value :
    crc16 (bytes [0x31, 0x32, 0x33, 0x34, 0x35, 0x36, 0x37, 0x38, 0x39]) = 0x29B1 := by decide +kernel

/-- T-WC-3, T-WC-5. -/
theorem test_crc : rdataOf (.crc .window 8) c0 = 0xA12B ∧ rdataOf (.crc .window 8) (c0.setP 4) = 0x4830 ∧
    rdataOf (.crc .window 5) (c0.setP 5) = 0xFFFF := by decide +kernel

/-- T-WC-4, T-WC-7: the place of a range does not count, and a range may cover the storage twice. -/
theorem test_crc_wrapped :
    rdataOf (.crc .window 8) (inst 8 6 8 0 [0x33, 0x34, 0x35, 0x36, 0x37, 0x38, 0x31, 0x32]) = 0xA12B ∧
    rdataOf (.crc .window 16) c0 = 0x74F6 := by decide +kernel

/-- T-WC-6. -/
theorem test_crc_range : (outOf (.crc .window 4) (c0.setP 8)).status = 0x500 ∧
    (outOf (.crc .window 6) c0).status = 0x500 ∧ rdataOf (.crc .window 6) (c0.setRdata 0xFFFF) = 0xFFFF := by
  decide +kernel

/-! ## The receiver (3.5) -/

/-- T-RX-1. -/
theorem test_rxinc_good : rx (.rxinc 8) good = [0, 8, 0, 8, 0x1E] := by decide +kernel

/-- T-RX-6. -/
theorem test_rxinc_bad : rx (.rxinc 8) bad = [8, 0, 8, 0, 0x30] := by decide +kernel

/-- T-RX-5, third stream. -/
theorem test_rxinc_resync :
    rx (.rxinc 16) (inst 16 0 11 0 [0x55, 0xAA, 0, 0x55, 0x55, 0, 2, 1, 2, 0x76, 0xF3]) = [3, 8, 3, 8, 0x1E] := by
  decide +kernel

/-- T-RX-4: two commands with a budget of 3 each. -/
theorem test_rxinc_budget : rx (.rxinc 3) good = [0, 8, 0, 3, 0x34] ∧
    rx (.rxinc 3) (outOf (.rxinc 3) good) = [0, 8, 0, 6, 0x34] := by decide +kernel

/-- T-RX-8. -/
theorem test_rxinc_nodata : rx (.rxinc 8) (inst 16 0 0 0 []) = [0, 0, 0, 0, 0x20] ∧
    rx (.rxinc 0) good = [0, 8, 0, 0, 0x20] := by decide +kernel

/-- T-RX-1, T-RX-15: TIME is sampled at the first byte of each candidate, and nowhere else. -/
theorem test_rxtime : (outOf (.rxinc 1) good).rxtime = Config.time 0 0 ∧ (outOf (.rxinc 8) good).times = 1 ∧
    (outOf (.rxinc 8) (inst 16 0 2 0 [0xAA, 0xBB])).times = 2 := ⟨rfl, by decide +kernel, by decide +kernel⟩

/-- T-RX-11, T-RX-12. -/
theorem test_rxall : rx .rxall part = [0, 5, 0, 5, 0x34] ∧
    rx .rxall (inst 16 0 3 0 [0x55, 0x54, 0]) = [0, 3, 0, 2, 0x40] ∧
    rx .rxall (outOf .rxall (inst 16 0 3 0 [0x55, 0x54, 0])) = [0, 3, 0, 3, 0x40] := by decide +kernel

/-- T-RX-11: the frame ends where `PredLen` holds, and following bytes stay queued. -/
theorem test_rxall_stops :
    rx .rxall (inst 16 0 10 5 [0x55, 0x55, 0, 2, 1, 2, 0x76, 0xF3, 0x55, 0x55]) = [0, 10, 0, 8, 0x1E] := by
  decide +kernel

/-- T-RX-10, T-RX-13. -/
theorem test_rxdone : rx .rxdone held = [8, 0, 8, 0, 0] ∧ rx .rxdone (outOf (.rxinc 8) part) = [5, 0, 5, 0, 0] ∧
    rx .rxdone (outOf .rxdone held) = [8, 0, 8, 0, 0] := by decide +kernel

/-- Not only RXINC clears an empty window's phase: after RXALL ended START_FAIL, an RXINC that finds no new
byte leaves PHASE = SEARCHING with W_LEN = 2, so I5 of R46, read literally, does not hold (log 15). -/
theorem test_i5_after_start_fail :
    rx (.rxinc 8) (outOf .rxall (inst 16 0 2 0 [0x55, 0x54])) = [0, 2, 0, 2, 0x20] := by decide +kernel

/-! ## Errors, port, reset (3.6) -/

/-- T-ERR-1, T-ERR-2: the first error is kept. -/
theorem test_illegal : (stepOf (pendingIn c0 0)).status = 0x300 ∧
    (stepOf (pendingIn ((stepOf (pendingIn c0 0)).setP 8) 0x48000004)).status = 0x300 := by decide +kernel

/-- T-ERR-3, T-ERR-4. -/
theorem test_clear_error : ((c0.raise .illegalCmd).hostWrite 0x04 0xFF).status = 0x300 ∧
    ((c0.raise .illegalCmd).hostWrite 0x04 0x100).status = 0 := by decide +kernel

/-- T-ERR-5. -/
theorem test_busy_write : ((pendingIn c0 0x04000000).hostWrite 0x08 5).p = 0 ∧
    ((pendingIn c0 0x04000000).hostWrite 0x08 5).ecode = .busyWrite ∧
    (stepOf ((pendingIn c0 0x04000000).hostWrite 0x08 5)).status = 0x700 := by decide +kernel

/-- T-HOST-1 to T-HOST-6. -/
theorem test_port : ((inst 8 0 0 0 []).hostWrite 0x14 13).readValue .xstart = 5 ∧
    (c0.hostWrite 0x08 0x12345).readValue .p = 0x2345 ∧ c0.readValue .cmd = 0 ∧
    c0.readValue (portReg 0x3C) = 0 ∧ portReg 0x05 = .status ∧ c0.hostWrite 0x10 7 = c0 ∧
    c0.hostWrite 0x30 1 = c0 ∧ c0.readValue .capacity = 8 := by decide +kernel

/-- The offsets of the registers (R20). -/
theorem test_offsets : ∀ r ∈ [PortReg.cmd, .status, .p, .wdata, .rdata, .xstart, .wstart, .wlen, .rxtime,
    .capacity, .reserved], portReg r.offset = r := by decide

/-- T-RST-2: a pending SETU8 is discarded. -/
theorem test_reset_discards : (stepOf { pendingIn s0 0x24000002 with sched := [.reset] }).mem = s0.mem ∧
    (stepOf { pendingIn s0 0x24000002 with sched := [.reset] }).pending = none := by decide +kernel

/-- R47; the memory of reset has the canonical form. -/
theorem test_reset : State.reset.status = 0 ∧ State.reset.mem.wf := by decide

/-- The first step after reset with a command placed runs that command (log 11). -/
theorem test_first_command : (stepOf (State.reset.withFetchWord 32 0x60000008)).rxcode = .nodata ∧
    (stepOf (State.reset.withFetchWord 32 0x60000008)).pending = none ∧
    (stepOf (State.reset.withFetchWord 32 0)).ecode = .illegalCmd := by decide +kernel

/-- `getu16 v=0, p=5, i=2` runs to its result in six turns: T-GET-9 through the port (R103). -/
theorem test_pseudo_get :
    (Host.Core.run core 6 { g0 with prog := pseudoGet 5 (.getu16 .window 2) } |> after).map
      (fun t => (t.results, t.programEnded)) = some ([0xFF80], true) := by decide +kernel

/-- Two instances share nothing (R268). -/
theorem test_instances : (match systemStep 1 [c0, pendingIn (c0.setWdata 13) 0x44000000] with
    | .next l => l.map (fun s => (s == c0, s.busy))
    | .fault _ => []
    | .refused _ => []) = [(true, false), (false, false)] := by decide +kernel

/-! ## Witnesses: values that meet all hypotheses of an obligation, clause by clause -/

theorem inv_good : good.Inv := inv_of (by decide +kernel)
theorem inv_part : part.Inv := inv_of (by decide +kernel)
theorem inv_held : held.Inv := inv_of (by decide +kernel)
theorem inv_c0 : c0.Inv := inv_of (by decide +kernel)
theorem inv_pending : (pendingIn c0 0x44000000).Inv := inv_of (by decide +kernel)

/-- The bounds of both fields; DecodeOfEncode and EncodeIsTheShiftFormula. -/
theorem witness_DecodeOfEncode : Instr.wf (.getbool .aux 7 65535) = true ∧ Instr.wf (.setbool .window 0 0) = true ∧
    Instr.wf (.rxinc 65535) = true ∧ Instr.wf .wrap = true := by decide

theorem witness_EncodeOfDecode : decode 0x22E0FFFF = .ok (.getbool .aux 7 65535) := by decide

theorem witness_DecodeIsTheTableLoop : (0x6000FFFF : Word) &&& Opcode.rxinc.maskWord = Opcode.rxinc.matchWord ∧
    ∀ op : Opcode, (0xFC000000 : Word) &&& op.maskWord ≠ op.matchWord :=
  ⟨by decide, fun op => by cases op <;> decide⟩

theorem witness_EngineTurnRunsTheDecodedCommand :
    (pendingIn c0 0x44000000).nextTurn = .engine ∧ (pendingIn c0 0x44000000).pending = some 0x44000000 ∧
    decode 0x44000000 = .ok .wrap := by decide

theorem witness_IllegalCommandOnlyRecordsTheError :
    (pendingIn c0 0xFC000000).nextTurn = .engine ∧ (pendingIn c0 0xFC000000).pending = some 0xFC000000 ∧
    decode 0xFC000000 = .error .unassignedOpcode ∧
    (pendingIn (c0.raise .busyWrite) 0x68000001).nextTurn = .engine ∧
    decode 0x68000001 = .error .unusedField := by decide

theorem witness_HostTurnRunsItsStatement : ∀ st ∈ [HostStmt.wr 0x00 0x44000000, .rd 0x3F, .wait],
    ({ c0 with sched := [.host], prog := [st] } : State).nextTurn = .host ∧
    ({ c0 with sched := [.host], prog := [st] } : State).prog = st :: [] := by decide

/-- HostWriteWhileIdle and HostReadWhileIdle: a register in every clause, the slots' first and last offsets. -/
theorem witness_HostWriteWhileIdle : c0.busy = false ∧ c0.Inv ∧
    (0x03 : BitVec 6).toNat / 4 = 0x0 ∧ (0x04 : BitVec 6).toNat / 4 = 0x1 ∧ (0x0B : BitVec 6).toNat / 4 = 0x2 ∧
    (0x0C : BitVec 6).toNat / 4 = 0x3 ∧ (0x13 : BitVec 6).toNat / 4 = 0x4 ∧ (0x17 : BitVec 6).toNat / 4 = 0x5 ∧
    (0x18 : BitVec 6).toNat / 4 = 0x6 ∧ (0x1F : BitVec 6).toNat / 4 = 0x7 ∧ (0x20 : BitVec 6).toNat / 4 = 0x8 ∧
    (0x27 : BitVec 6).toNat / 4 = 0x9 ∧ 0xA ≤ (0x28 : BitVec 6).toNat / 4 ∧ 0xA ≤ (0x3F : BitVec 6).toNat / 4 ∧
    (0x3F : BitVec 6).toNat / 4 ∉ [0x0, 0x1, 0x2, 0x3, 0x5] ∧
    (0x10 : BitVec 6).toNat / 4 ∉ [0x0, 0x1, 0x2, 0x3, 0x5] :=
  ⟨rfl, inv_c0, by decide⟩

/-- HostWriteWhileBusyIsDropped and HostReadWhileBusy. -/
theorem witness_HostWriteWhileBusyIsDropped : (pendingIn c0 0x44000000).busy = true ∧
    (0x07 : BitVec 6).toNat / 4 = 0x1 ∧ (0x00 : BitVec 6).toNat / 4 ≠ 0x1 := by decide

theorem witness_ProducerTurnAppendsOrWaits :
    ({ good with sched := [.producer], incoming := [7] } : State).nextTurn = .producer ∧
    good.qcount < good.cap ∧
    ({ c0 with sched := [.producer], incoming := [7] } : State).nextTurn = .producer ∧
    c0.cap ≤ c0.qcount := by decide +kernel

theorem witness_QueueIsAFifo : good.qhead < good.cap ∧ good.qcount ≤ good.cap ∧ good.qcount < good.cap ∧
    c0.qhead < c0.cap ∧ c0.qcount ≤ c0.cap ∧ (8 : Nat) ≤ c0.qcount := by decide +kernel

/-- The last queued byte and the first byte behind it. -/
theorem witness_StorageReadInsideAndOutsideTheQueue :
    (7 + good.cap - good.qhead) % good.cap < good.qcount ∧
    good.qcount ≤ (8 + good.cap - good.qhead) % good.cap := by decide +kernel

/-- GetBoolReadsOneBit, SetBoolWritesOneBit, GetBoolAfterSetBool and WritersLaws: the last bit; a byte at the wrap point. -/
theorem witness_GetBoolReadsOneBit : (7 : Nat) < 8 ∧ s0.inQueue (s0.phys .window (s0.p.toNat + 2)) = true := by
  decide +kernel

theorem witness_GetFrame : (Instr.geti16 .window 7).opcode ∈
      [Opcode.getu8, .geti8, .getu16, .geti16, .getu32, .geti32, .getf32, .getbool] ∧
    exec (.geti16 .window 7) g0 = .next (outOf (.geti16 .window 7) g0) :=
  ⟨by decide, exec_outOf (by decide +kernel)⟩

/-- A field whose bytes lie apart, and one in a storage smaller than it (its last byte is written last). -/
theorem witness_WritersStoreBigEndian :
    (Instr.setu32 .window 1, 4) ∈ [(Instr.setu8 .window 1, 1), (.seti8 .window 1, 1), (.setu16 .window 1, 2),
      (.seti16 .window 1, 2), (.setu32 .window 1, 4), (.seti32 .window 1, 4), (.setf32 .window 1, 4)] ∧
    (∀ k, k < 4 → ∀ j, k < j → j < 4 →
      s0.phys .window (s0.p.toNat + 1 + j) ≠ s0.phys .window (s0.p.toNat + 1 + k)) ∧
    (∀ k, k < 4 → 3 ≠ s0.phys .window (s0.p.toNat + 1 + k)) ∧
    (∀ j, 3 < j → j < 4 → (inst 2 0 2 0 []).phys .window (0 + 1 + j) ≠ (inst 2 0 2 0 []).phys .window (0 + 1 + 3)) :=
  ⟨by decide, fun k hk j h1 h2 => (by decide +kernel : ∀ k < 4, ∀ j < 4, k < j →
    s0.phys .window (s0.p.toNat + 1 + j) ≠ s0.phys .window (s0.p.toNat + 1 + k)) k hk j h2 h1, by decide +kernel,
    by intro j h1 h2; omega⟩

/-- A 32-bit field that fills the storage. -/
theorem witness_RoundTripThroughStorage :
    let s := inst 4 1 4 0 []
    (Instr.seti32 .window 3, Instr.geti32 .window 3, 4, s.wdata.toInt) ∈
      [(Instr.setu8 .window 3, Instr.getu8 .window 3, 1, ((s.wdata.toNat % 2 ^ 8 : Nat) : Int)),
       (.seti8 .window 3, .geti8 .window 3, 1, Int.bmod s.wdata.toNat (2 ^ 8)),
       (.setu16 .window 3, .getu16 .window 3, 2, ((s.wdata.toNat % 2 ^ 16 : Nat) : Int)),
       (.seti16 .window 3, .geti16 .window 3, 2, Int.bmod s.wdata.toNat (2 ^ 16)),
       (.setu32 .window 3, .getu32 .window 3, 4, s.wdata.toInt),
       (.seti32 .window 3, .geti32 .window 3, 4, s.wdata.toInt),
       (.setf32 .window 3, .getf32 .window 3, 4, s.wdata.toInt)] ∧
    4 ≤ s.cap ∧ (∀ k, k < 4 → s.inQueue (s.phys .window (s.p.toNat + 3 + k)) = true) := by
  decide +kernel

theorem witness_WritersLaws :
    exec (.setbool .window 7 2) s0 = .next (outOf (.setbool .window 7 2) s0) ∧
    exec (.setbool .window 7 2) (s0.setWdata 1) = .next (outOf (.setbool .window 7 2) (s0.setWdata 1)) ∧
    (s0.wdata.getLsbD 0 = (s0.byteAt (s0.phys .window (s0.p.toNat + 2))).getLsbD 6) ∧
    exec (.setu16 .window 7) s0 = .next (outOf (.setu16 .window 7) s0) ∧
    exec (.seti16 .window 7) s0 = .next (outOf (.seti16 .window 7) s0) :=
  ⟨exec_outOf (by decide +kernel), exec_outOf (by decide +kernel), by decide +kernel,
    exec_outOf (by decide +kernel), exec_outOf (by decide +kernel)⟩

/-- CrcOverWholeWords and CrcRangeError: an empty range, two words, a range one byte short, one that ends
before it starts. -/
theorem witness_CrcOverWholeWords : (c0.setP 5).p.toNat ≤ 5 ∧ (5 - (c0.setP 5).p.toNat) % 4 = 0 ∧
    c0.p.toNat ≤ 8 ∧ (8 - c0.p.toNat) % 4 = 0 ∧ (7 - c0.p.toNat) % 4 ≠ 0 ∧ 4 < (c0.setP 5).p.toNat := by decide

/-- T-WC-3 and T-WC-4: the same bytes at two places. -/
theorem witness_CrcDependsOnlyOnTheBytes :
    let a := c0
    let b := inst 8 6 8 0 [0x33, 0x34, 0x35, 0x36, 0x37, 0x38, 0x31, 0x32]
    a.p.toNat ≤ 8 ∧ b.p.toNat ≤ 8 ∧ 8 - a.p.toNat = 8 - b.p.toNat ∧ (8 - a.p.toNat) % 4 = 0 ∧
    b.collab = a.collab ∧
    (∀ k, k < 8 - a.p.toNat →
      a.memRead (a.phys .window (a.p.toNat + k)) k = b.memRead (b.phys .window (b.p.toNat + k)) k) ∧
    exec (.crc .window 8) a = .next (outOf (.crc .window 8) a) ∧
    exec (.crc .window 8) b = .next (outOf (.crc .window 8) b) :=
  ⟨by decide, by decide, by decide, by decide, by decide, by decide +kernel, exec_outOf (by decide +kernel),
    exec_outOf (by decide +kernel)⟩

theorem witness_HeldFrameIsReportedAgain : held.phase = .ready := rfl

/-- A zero budget; and a window that holds all the queue has. -/
theorem witness_NoNewByteIsNodata : good.phase ≠ .ready ∧ good.wlen ≤ good.qcount ∧
    (inst 16 0 0 0 []).phase ≠ .ready ∧ (inst 16 0 0 0 []).wlen = (inst 16 0 0 0 []).qcount := by decide

/-- RxincEndsInOneOfThreeWays, RxallEndsInOneOfThreeWays. -/
theorem witness_RxincEndsInOneOfThreeWays : good.phase ≠ .ready ∧ 0 < 8 ∧ good.wlen < good.qcount := by decide

/-- ReceiveFrame, RxincMovesWindowAndQueueTogether, SearchingMeansEmptyAfterRxinc, OnlyTheListedCommandsWrite. -/
theorem witness_ReceiveFrame : good.Inv ∧ exec (.rxinc 8) good = .next (outOf (.rxinc 8) good) ∧
    exec .rxall good = .next (outOf .rxall good) ∧ (outOf (.rxinc 8) good).rxcode ≠ .nodata :=
  ⟨inv_good, exec_outOf (by decide +kernel), exec_outOf (by decide +kernel), by decide +kernel⟩

/-- The frame is accepted; and the command ends short of it. -/
theorem witness_RxincAcceptsOnlyCheckedFrames :
    good.Inv ∧ good.Booted ∧ good.phase ≠ .ready ∧ 0 < 8 ∧ good.wlen < good.qcount ∧
    exec (.rxinc 8) good = .next (outOf (.rxinc 8) good) ∧ (outOf (.rxinc 8) good).phase = .ready ∧
    exec (.rxinc 3) good = .next (outOf (.rxinc 3) good) ∧ (outOf (.rxinc 3) good).phase = .accumulating :=
  ⟨inv_good, rfl, by decide, by decide, by decide, exec_outOf (by decide +kernel), by decide +kernel,
    exec_outOf (by decide +kernel), by decide +kernel⟩

/-- All 8 bytes of BAD are skipped. -/
theorem witness_RxincSkipsOnlyFailedCandidates : bad.Inv ∧ bad.Booted ∧
    exec (.rxinc 8) bad = .next (outOf (.rxinc 8) bad) ∧ 7 < bad.qcount - (outOf (.rxinc 8) bad).qcount :=
  ⟨inv_of (by decide +kernel), rfl, exec_outOf (by decide +kernel), by decide +kernel⟩

/-- Accepted, short, and refused at the start word; windows of length 1 and 7 on the way to the accepted 8. -/
theorem witness_RxallAcceptsOnStartAndLength :
    let x := inst 16 0 3 0 [0x55, 0x54, 0]
    good.Inv ∧ good.Booted ∧ good.phase ≠ .ready ∧ good.wlen < good.qcount ∧
    exec .rxall good = .next (outOf .rxall good) ∧ (outOf .rxall good).phase = .ready ∧
    good.wlen < 1 ∧ 7 < (outOf .rxall good).wlen ∧
    part.Inv ∧ part.Booted ∧ exec .rxall part = .next (outOf .rxall part) ∧ (outOf .rxall part).phase = .accumulating ∧
    x.Inv ∧ x.Booted ∧ exec .rxall x = .next (outOf .rxall x) ∧ (outOf .rxall x).rxcode = .startFail :=
  ⟨inv_good, rfl, by decide, by decide, exec_outOf (by decide +kernel), by decide +kernel, by decide,
    by decide +kernel, inv_part, rfl, exec_outOf (by decide +kernel), by decide +kernel,
    inv_of (by decide +kernel), rfl, exec_outOf (by decide +kernel), by decide +kernel⟩

/-- GOOD with a byte of the next frame behind it: RXALL stops at the frame's own length (R207). -/
theorem test_rxall_leaves_the_next_frame :
    (outOf .rxall (inst 16 0 9 0 [0x55, 0x55, 0, 2, 1, 2, 0x76, 0xF3, 0x55])).wlen = 8 := by decide +kernel

theorem witness_RxdoneDrainsTheWindow : held.wlen ≤ held.qcount ∧ good.wlen ≤ good.qcount := by decide

theorem witness_WindowBeyondTheQueueStops : (inst 16 0 3 4 []).qcount < (inst 16 0 3 4 []).wlen ∧
    (inst 16 0 3 4 []).phase ≠ .ready := by decide

/-- A sampling command and one that does not; RXALL from an empty window and from one with a byte; RXINC
from an empty window, from one of 3 bytes with no skip, and with all of its bytes skipped; a budget of one byte on
an empty window and on one of 3 bytes; a sampling step. -/
theorem witness_TimestampIsTheLatestSample :
    let m := outOf (.rxinc 3) good
    let e := pendingIn good 0x60000008
    exec (.rxinc 8) good = .next (outOf (.rxinc 8) good) ∧ good.times < (outOf (.rxinc 8) good).times ∧
    exec .rxdone held = .next (outOf .rxdone held) ∧ (outOf .rxdone held).times = held.times ∧
    exec .rxall part = .next (outOf .rxall part) ∧ part.wlen = 0 ∧ part.wlen < (outOf .rxall part).wlen ∧
    exec .rxall m = .next (outOf .rxall m) ∧ 1 ≤ m.wlen ∧
    good.phase ≠ .ready ∧ good.wlen = 0 ∧ 0 < good.qcount ∧
    exec (.rxinc 5) m = .next (outOf (.rxinc 5) m) ∧ m.qcount - (outOf (.rxinc 5) m).qcount ≤ m.wlen ∧
    exec (.rxinc 8) bad = .next (outOf (.rxinc 8) bad) ∧
    exec (.rxinc 1) good = .next (outOf (.rxinc 1) good) ∧ exec (.rxinc 1) m = .next (outOf (.rxinc 1) m) ∧
    step e = .next (stepOf e) ∧ (stepOf e).times ≠ e.times :=
  ⟨exec_outOf (by decide +kernel), by decide +kernel, exec_outOf (by decide +kernel), by decide +kernel,
    exec_outOf (by decide +kernel), rfl, by decide +kernel, exec_outOf (by decide +kernel), by decide +kernel,
    by decide, rfl, by decide, exec_outOf (by decide +kernel), by decide +kernel, exec_outOf (by decide +kernel),
    exec_outOf (by decide +kernel), exec_outOf (by decide +kernel), step_stepOf (by decide +kernel),
    by decide +kernel⟩

/-- TIME is sampled once for each candidate frame, not once for each byte (R202): RXINC takes GOOD with one
sample. -/
theorem test_one_sample_for_one_frame : (outOf (.rxinc 8) good).times = good.times + 1 := by decide +kernel

theorem witness_RxincSplitsAcrossCalls : exec (.rxinc 3) good = .next (outOf (.rxinc 3) good) ∧
    exec (.rxinc 5) (outOf (.rxinc 3) good) = .next (outOf (.rxinc 5) (outOf (.rxinc 3) good)) ∧
    exec (.rxinc (3 + 5)) good = .next (outOf (.rxinc (3 + 5)) good) :=
  ⟨exec_outOf (by decide +kernel), exec_outOf (by decide +kernel), exec_outOf (by decide +kernel)⟩

/-- GOOD arrives in two parts (T-RX-2). -/
theorem witness_RxincDoesNotDependOnArrival :
    let rest := bytes [2, 0x76, 0xF3]
    let more := fun s : State => rest.foldl (fun u b => u.enqueue b) s
    part.Inv ∧ part.Booted ∧ part.qcount + rest.length ≤ part.cap ∧
    exec (.rxinc 8) part = .next (outOf (.rxinc 8) part) ∧
    exec (.rxinc 8) (more (outOf (.rxinc 8) part)) = .next (outOf (.rxinc 8) (more (outOf (.rxinc 8) part))) ∧
    exec (.rxinc (min 8 (part.qcount - part.wlen) + 8)) (more part) =
      .next (outOf (.rxinc (min 8 (part.qcount - part.wlen) + 8)) (more part)) ∧
    (outOf (.rxinc 8) (more (outOf (.rxinc 8) part))).phase = .ready :=
  ⟨inv_part, rfl, by decide +kernel, exec_outOf (by decide +kernel), exec_outOf (by decide +kernel),
    exec_outOf (by decide +kernel), by decide +kernel⟩

/-- T-RX-9: a full window that is never long enough. -/
theorem witness_FullWindowStallsUntilRxdone :
    let s := { inst 4 0 4 4 [0x55, 0x55, 0x55, 0] with phase := .accumulating }
    s.phase ≠ .ready ∧ s.wlen = s.qcount ∧ s.qcount = s.cap := by decide +kernel

/-- T-RX-12, before its second RXALL; and a first byte that fails by itself. -/
theorem witness_RxallNeverRecoversFromABadStart :
    let s := { inst 16 0 3 2 [0x55, 0x54, 0] with rxcode := .startFail }
    s.Inv ∧ s.Booted ∧ s.params.Duties ∧ s.phase ≠ .ready ∧ s.params.predStart s.win = false ∧
    exec .rxall s = .next (outOf .rxall s) ∧ s.params.predStart (bytes [0xAA]) = false :=
  ⟨inv_of (by decide +kernel), rfl, reference_duties, by decide, by decide +kernel,
    exec_outOf (by decide +kernel), by decide +kernel⟩

/-- OnlyTheListedCommandsWrite: a command in every clause. -/
theorem witness_OnlyTheListedCommandsWrite :
    exec (.setu8 .window 0) s0 = .next (outOf (.setu8 .window 0) s0) ∧
    (Instr.setu8 .window 0).opcode.writesRdata = false ∧ (Instr.setu8 .window 0).opcode.isReceiver = false ∧
    (Instr.setu8 .window 0).opcode ≠ .rxinc ∧ (Instr.setu8 .window 0).opcode ≠ .rxall ∧
    (Instr.setu8 .window 0).opcode ≠ .rxdone ∧ (Instr.setu8 .window 0).opcode ≠ .crc ∧
    exec .rxall part = .next (outOf .rxall part) ∧ Instr.rxall.opcode.writesStorage = false ∧
    exec .rxdone held = .next (outOf .rxdone held) ∧ exec (.crc .window 6) c0 = .next (outOf (.crc .window 6) c0) :=
  ⟨exec_outOf (by decide +kernel), by decide, by decide, by decide, by decide, by decide, by decide,
    exec_outOf (by decide +kernel), by decide, exec_outOf (by decide +kernel), exec_outOf (by decide +kernel)⟩

theorem witness_RdataChangesOnlyByResultCommands :
    let s := pendingIn (c0.setWdata 13) 0x44000000
    let r := { c0.setRdata 7 with sched := [.reset] }
    step s = .next (stepOf s) ∧ (stepOf s).rdata ≠ s.rdata ∧ step r = .next (stepOf r) ∧ (stepOf r).rdata ≠ r.rdata :=
  ⟨step_stepOf (by decide +kernel), by decide +kernel, step_stepOf (by decide +kernel), by decide +kernel⟩

/-- A step that keeps the error, and the write that clears it. -/
theorem witness_ErrorIsKeptUntilTheHostClearsIt :
    let s := pendingIn (c0.raise .busyWrite) 0
    let h := { c0.raise .busyWrite with sched := [.host], prog := [.wr 0x04 0x100] }
    step s = .next (stepOf s) ∧ s.err = true ∧ s.nextTurn ≠ .reset ∧
    step h = .next (stepOf h) ∧ h.err = true ∧ h.nextTurn ≠ .reset ∧ (stepOf h).err = false :=
  ⟨step_stepOf (by decide +kernel), by decide +kernel, by decide +kernel, step_stepOf (by decide +kernel),
    by decide +kernel, by decide +kernel, by decide +kernel⟩

/-- ParametersAreFixed, EveryStepKeepsTheInvariant, NoErrorStopsTheBlock. -/
theorem witness_EveryStepKeepsTheInvariant :
    let s := pendingIn c0 0x44000000
    s.Inv ∧ step s = .next (stepOf s) ∧ s.pending = some 0x44000000 :=
  ⟨inv_pending, step_stepOf (by decide +kernel), rfl⟩

/-- A held frame, while the Producer appends; and while the Engine runs another RXINC. -/
theorem witness_AcceptedFrameIsHeld :
    let s := { held with sched := [.producer], incoming := [9] }
    let e := pendingIn held 0x60000008
    s.Inv ∧ s.Booted ∧ s.phase = .ready ∧ step s = .next (stepOf s) ∧ s.nextTurn ≠ .reset ∧
    s.nextTurn ≠ .engine ∧
    e.Inv ∧ e.Booted ∧ e.phase = .ready ∧ step e = .next (stepOf e) ∧ e.nextTurn ≠ .reset ∧
    e.pending = some 0x60000008 ∧ decode 0x60000008 ≠ .ok .rxdone ∧ (Instr.rxinc 8).opcode.writesStorage = false ∧
    7 < e.wlen :=
  ⟨inv_of (by decide +kernel), rfl, rfl, step_stepOf (by decide +kernel), by decide, by decide,
    inv_of (by decide +kernel), rfl, rfl, step_stepOf (by decide +kernel), by decide, rfl, by decide, by decide,
    by decide⟩

theorem witness_ResetDiscardsThePendingCommand :
    ({ pendingIn s0 0x24000002 with sched := [.reset] } : State).nextTurn = .reset := rfl

/-- BootEstablishesTheWindowAtTheHead and WindowBytesAreQueued. -/
theorem witness_BootEstablishesTheWindowAtTheHead :
    let s := pendingIn held 0x60000008
    s.Inv ∧ s.Booted ∧ step s = .next (stepOf s) ∧ s.nextTurn ≠ .reset ∧ 7 < s.wlen :=
  ⟨inv_of (by decide +kernel), rfl, step_stepOf (by decide +kernel), by decide, by decide⟩

/-- A pending command with the Engine's turn behind two others, and one with a reset listed. -/
theorem witness_PendingCommandIsRun :
    let s := { pendingIn c0 0x44000000 with sched := [.host, .producer] }
    let r := { pendingIn c0 0x44000000 with sched := [.idle, .reset] }
    s.Inv ∧ s.pending = some 0x44000000 ∧ r.Inv ∧ r.pending = some 0x44000000 ∧ Turn.reset ∈ r.sched :=
  ⟨inv_of (by decide +kernel), rfl, inv_of (by decide +kernel), rfl, by decide⟩

theorem witness_InstancesAreIndependent :
    (∃ l, systemStep 1 [c0, pendingIn c0 0x44000000] = .next l) ∧ (0 : Nat) ≠ 1 := ⟨⟨_, rfl⟩, by decide⟩

/-- Each instance takes its own free values: two that differ in `source` alone read their own draws (R13,
R268). -/
theorem test_draws_are_per_instance :
    ({ c0 with source := 1 } : State).draw8 0 = Config.draw8 1 0 ∧ c0.draw8 0 = Config.draw8 0 0 := ⟨rfl, rfl⟩

end Sys2Proof.Tests
end

/-! PROOFS. The statements about the state, the register port and what every step keeps (10_state.md). -/

/-! ## What the receiver's loops keep -/

namespace Sys2Proof.Machine

/-- P is kept by every part of an RXALL (R207); `Grow()` finds a queued byte that the window does not have yet. -/
structure RxallClosed (P : State → Prop) : Prop where
  read : ∀ s, P s → P s.readWin
  phase : ∀ s f, P s → P (s.setPhase f)
  grow : ∀ s, P s → s.wlen < s.qcount → P s.grow
  report : ∀ s ok c, P s → P (s.rxReport ok c)

/-- P is kept by every part of an RXINC, which may also skip (R206). -/
structure RxincClosed (P : State → Prop) : Prop extends RxallClosed P where
  skip : ∀ s, P s → s.wlen ≠ 0 → P s.skip

theorem RxincClosed.rxincLoop {P : State → Prop} (hP : RxincClosed P) {b : Nat} {s : State}
    (hb : b + s.wlen ≤ s.qcount) (hs : P s) : P (rxincLoop b s) :=
  rxincLoop_preserves P hP.read hP.phase hP.skip hP.grow hP.report b s hb hs

theorem RxallClosed.rxallLoop {P : State → Prop} (hP : RxallClosed P) {b : Nat} {s : State}
    (hb : b + s.wlen ≤ s.qcount) (hs : P s) : P (rxallLoop b s) :=
  rxallLoop_preserves P hP.read hP.phase hP.grow hP.report b s hb hs

/-- RXINC keeps what its parts keep, whichever way it goes. -/
theorem RxincClosed.receive {P : State → Prop} (hP : RxincClosed P) {n : Nat} {s t : State}
    (h : receive (min n s.fresh) Machine.rxincLoop s = .next t) (hs : P s) : P t := by
  obtain ⟨-, rfl⟩ | ⟨-, -, -, rfl⟩ | ⟨-, hw, -, rfl⟩ := receive_cases h
  · exact hP.report s _ _ hs
  · exact hP.report s _ _ hs
  · exact hP.rxincLoop (by rw [State.fresh]; omega) hs

/-- RXALL keeps what its parts keep, whichever way it goes. -/
theorem RxallClosed.receive {P : State → Prop} (hP : RxallClosed P) {s t : State}
    (h : receive s.fresh Machine.rxallLoop s = .next t) (hs : P s) : P t := by
  obtain ⟨-, rfl⟩ | ⟨-, -, -, rfl⟩ | ⟨-, hw, -, rfl⟩ := receive_cases h
  · exact hP.report s _ _ hs
  · exact hP.report s _ _ hs
  · exact hP.rxallLoop (by rw [State.fresh]; omega) hs

/-! ## How the loops end (R206, R207) -/

/-- No frame is accepted, and PHASE says whether the window holds a candidate. -/
def State.Candidate (s : State) : Prop :=
  (s.phase = .searching ∧ s.wlen = 0) ∨ (s.phase = .accumulating ∧ 1 ≤ s.wlen)

/-- No frame is accepted; an empty window is in SEARCHING (R46 I4). -/
def State.Unaccepted (s : State) : Prop := s.phase = .searching ∨ (s.phase = .accumulating ∧ 1 ≤ s.wlen)

theorem State.Candidate.unaccepted {s : State} (h : s.Candidate) : s.Unaccepted := h.imp_left And.left

/-- A frame is accepted and reported. -/
def State.Accepted (s : State) : Prop :=
  s.phase = .ready ∧ 1 ≤ s.wlen ∧ s.rxok = true ∧ s.rxcode = .ready

/-- RXINC accepts a frame or uses up its budget; with a budget of 0 it leaves PHASE and window as they were. -/
theorem rxincLoop_ends (b : Nat) (s : State) (hs : b ≠ 0 ∨ s.Candidate) :
    (rxincLoop b s).Accepted ∨
      ((rxincLoop b s).Candidate ∧ (rxincLoop b s).rxok = false ∧ (rxincLoop b s).rxcode = .incomplete) := by
  induction b generalizing s with
  | zero => exact .inr ⟨hs.resolve_left (by simp), rfl, rfl⟩
  | succ b ih =>
    have hends := scan_ends (s.wlen + 1) s.grow (Nat.le_refl _)
    simp only [rxincLoop]
    rcases hsc : scan (s.wlen + 1) s.grow with ⟨e, t⟩
    rw [hsc] at hends
    obtain ⟨rfl, hw, hp, -⟩ | ⟨rfl, hw, hp⟩ | ⟨rfl, hw, hp⟩ := hends
    · exact ih t (.inr (.inl ⟨hp (by simp), hw⟩))
    · exact ih t (.inr (.inr ⟨hp, hw⟩))
    · exact .inl ⟨hp, hw, rfl, rfl⟩

/-- RXALL accepts a frame, uses up its budget, or stops at a bad start with PHASE = SEARCHING. -/
theorem rxallLoop_ends (b : Nat) (s : State) (hs : b ≠ 0 ∨ s.Candidate) :
    (rxallLoop b s).Accepted ∨
      ((rxallLoop b s).Candidate ∧ (rxallLoop b s).rxok = false ∧ (rxallLoop b s).rxcode = .incomplete) ∨
      ((rxallLoop b s).phase = .searching ∧ (rxallLoop b s).rxok = false ∧ (rxallLoop b s).rxcode = .startFail) := by
  induction b generalizing s with
  | zero => exact .inr (.inl ⟨hs.resolve_left (by simp), rfl, rfl⟩)
  | succ b ih =>
    simp only [rxallLoop]
    split
    · split
      · exact .inl ⟨rfl, Nat.le_add_left 1 _, rfl, rfl⟩
      · exact ih _ (.inr (.inr ⟨rfl, Nat.le_add_left 1 _⟩))
    · exact .inr (.inr ⟨rfl, rfl, rfl⟩)

/-! ## The invariant (R46): what each operation keeps of it -/

namespace State.Inv

variable {s : State}

theorem popTurn (h : s.Inv) : s.popTurn.Inv := { h with }
theorem setProg (h : s.Inv) (l : List HostStmt) : (s.setProg l).Inv := { h with }
theorem setIncoming (h : s.Inv) (l : List Byte) : (s.setIncoming l).Inv := { h with }
theorem setP (h : s.Inv) (v : BitVec 16) : (s.setP v).Inv := { h with }
theorem setWdata (h : s.Inv) (v : Word) : (s.setWdata v).Inv := { h with }
theorem setXstart (h : s.Inv) (v : Word) : (s.setXstart v).Inv :=
  { h with xstart_lt := Nat.mod_lt _ s.cap_pos }
theorem accept (h : s.Inv) (w : Word) : (s.accept w).Inv := { h with busy_iff := by simp }
theorem retire (h : s.Inv) : s.retire.Inv := { h with busy_iff := by simp }
theorem clearErr (h : s.Inv) : s.clearErr.Inv := { h with err_iff := by simp }

theorem raise (h : s.Inv) {c : ErrCode} (hc : c ≠ .none) : (s.raise c).Inv := by
  unfold State.raise
  split
  · exact h
  · exact { h with err_iff := by simp [hc] }

/-- A write inside [0, CAP) keeps storage canonical and inside [0, CAP). -/
theorem withMem (h : s.Inv) {m : Memory} (d : Nat)
    (hm : ∀ P : Memory → Prop, (∀ n a b, a < s.cap → P n → P (Memory.insert a b n)) → P s.mem → P m) :
    State.Inv { s with mem := m, draws := d } :=
  { h with
    mem_wf := hm Memory.wf (fun _ a b _ => Memory.insert_wf a b) h.mem_wf
    mem_inside := hm (fun n => ∀ c ∈ n, c.1 < s.cap) (fun _ _ _ => Memory.insert_inside) h.mem_inside }

theorem enqueue (h : s.Inv) (hroom : s.qcount < s.cap) (b : Byte) : (s.enqueue b).Inv :=
  { h with
    qcount_le := hroom
    wlen_le := Nat.le_succ_of_le h.wlen_le
    mem_wf := Memory.insert_wf _ _ h.mem_wf
    mem_inside := Memory.insert_inside (Nat.mod_lt _ s.cap_pos) h.mem_inside }

theorem applyReset (h : s.Inv) : s.applyReset.Inv :=
  { h with
    wstart_lt := s.cap_pos
    xstart_lt := s.cap_pos
    wlen_le := Nat.zero_le _
    not_validating := by simp
    empty_searching := by simp
    ready_iff := by simp
    rxok_iff := by simp
    busy_iff := by simp
    err_iff := by simp }

end State.Inv

/-! ## The invariant over the receive commands: inside a loop PHASE and the reported outcome do not agree, the rest
of the invariant does -/

/-- PHASE and the outcome as RXDONE leaves them (R208). -/
def State.clearOutcome (s : State) : State := (s.setPhase .searching).rxReport false .none

namespace State.Inv

variable {s : State}

theorem clearOutcome (h : s.Inv) : s.clearOutcome.Inv :=
  { h with
    not_validating := nofun
    empty_searching := fun _ => rfl
    ready_iff := ⟨nofun, nofun⟩
    rxok_iff := ⟨nofun, nofun⟩ }

theorem of_accepted (h : s.clearOutcome.Inv) (ha : s.Accepted) : s.Inv := by
  obtain ⟨hp, hw, hok, hc⟩ := ha
  exact { h with
    not_validating := by simp [hp]
    empty_searching := by omega
    ready_iff := by simp [hp, hc]
    rxok_iff := by simp [hok, hc] }

theorem of_not_accepted (h : s.clearOutcome.Inv) (hp : s.Unaccepted)
    (hok : s.rxok = false) (hc : s.rxcode ≠ .ready) : s.Inv :=
  { h with
    not_validating := by rcases hp with hp | ⟨hp, -⟩ <;> simp [hp]
    empty_searching := fun h0 => hp.resolve_right (by omega)
    ready_iff := by rcases hp with hp | ⟨hp, -⟩ <;> simp [hp, hc]
    rxok_iff := by simp [hok, hc] }

theorem unaccepted (h : s.Inv) (hr : s.phase ≠ .ready) : s.Unaccepted := by
  cases hp : s.phase
  case searching => exact .inl hp
  case accumulating =>
    have hw : s.wlen ≠ 0 := fun h0 => by rw [h.empty_searching h0] at hp; cases hp
    exact .inr ⟨hp, Nat.one_le_iff_ne_zero.2 hw⟩
  case validating => exact absurd hp h.not_validating
  case ready => exact absurd hp hr

theorem wlen_pos_of_ready (h : s.Inv) (hr : s.phase = .ready) : 1 ≤ s.wlen :=
  Nat.one_le_iff_ne_zero.2 fun h0 => by rw [h.empty_searching h0] at hr; cases hr

end State.Inv

theorem clearOutcome_inv_closed : RxincClosed fun s => s.clearOutcome.Inv where
  read _ h := { h with }
  phase _ _ h := { h with }
  report _ _ _ h := { h with }
  grow _ h hq := { h with wlen_le := hq, empty_searching := nofun }
  skip s h _ :=
    { h with
      wstart_lt := Nat.mod_lt _ s.cap_pos
      qhead_lt := Nat.mod_lt _ s.cap_pos
      qcount_le := Nat.le_trans (Nat.sub_le _ _) h.qcount_le
      wlen_le := Nat.sub_le_sub_right h.wlen_le 1
      empty_searching := fun _ => rfl }

/-- A receive command keeps the invariant where its loop ends with a frame accepted and reported, or with none. -/
theorem receive_keeps_inv {budget : Nat} {loop : Nat → State → State} {s t : State} (h : s.Inv)
    (hx : receive budget loop s = .next t) (ht : t.clearOutcome.Inv)
    (hends : budget ≠ 0 → (loop budget s).Accepted ∨ (loop budget s).Unaccepted ∧ (loop budget s).rxok = false ∧
      (loop budget s).rxcode ≠ .ready) : t.Inv := by
  obtain ⟨hr, rfl⟩ | ⟨hr, -, -, rfl⟩ | ⟨-, -, hb, rfl⟩ := receive_cases hx
  · exact .of_accepted ht ⟨hr, h.wlen_pos_of_ready hr, rfl, rfl⟩
  · exact .of_not_accepted ht (h.unaccepted hr) rfl nofun
  · obtain ha | ⟨hp, hok, hc⟩ := hends hb
    · exact .of_accepted ht ha
    · exact .of_not_accepted ht hp hok hc

theorem rxinc_keeps_inv {n : Nat} {s t : State} (h : s.Inv)
    (hx : receive (min n s.fresh) rxincLoop s = .next t) : t.Inv := by
  refine receive_keeps_inv h hx (clearOutcome_inv_closed.receive hx h.clearOutcome) fun hb => ?_
  refine (rxincLoop_ends _ s (.inl hb)).imp_right fun ⟨hp, hok, hc⟩ => ⟨hp.unaccepted, hok, by simp [hc]⟩

theorem rxall_keeps_inv {s t : State} (h : s.Inv) (hx : receive s.fresh rxallLoop s = .next t) : t.Inv := by
  refine receive_keeps_inv h hx (clearOutcome_inv_closed.toRxallClosed.receive hx h.clearOutcome) fun hb => ?_
  obtain ha | ⟨hp, hok, hc⟩ | ⟨hp, hok, hc⟩ := rxallLoop_ends _ s (.inl hb)
  · exact .inl ha
  · exact .inr ⟨hp.unaccepted, hok, by simp [hc]⟩
  · exact .inr ⟨.inl hp, hok, by simp [hc]⟩

theorem rxdone_keeps_inv {s : State} (h : s.Inv) :
    State.Inv ((((s.consume s.wlen).emptyWindow).setPhase .searching).rxReport false .none) :=
  { h.clearOutcome with
    wstart_lt := Nat.mod_lt _ s.cap_pos
    qhead_lt := Nat.mod_lt _ s.cap_pos
    qcount_le := Nat.le_trans (Nat.sub_le _ _) h.qcount_le
    wlen_le := Nat.zero_le _
    empty_searching := fun _ => rfl }

/-! ## The invariant over the commands and the turns of the agents -/

theorem exec_keeps_inv {i : Instr} {s t : State} (h : s.Inv) (hx : exec i s = .next t) : t.Inv := by
  obtain ⟨-, -, x, d, rfl⟩ | ⟨v, e, -, -, rfl⟩ | ⟨-, m, d, rfl, hm⟩ | ⟨n, -, hr⟩ | ⟨-, hr⟩ | ⟨-, -, rfl⟩ :=
    exec_cases hx
  · exact { h with }
  · exact h.raise nofun
  · exact h.withMem d hm
  · exact rxinc_keeps_inv h hr
  · exact rxall_keeps_inv h hr
  · exact rxdone_keeps_inv h

namespace State

theorem writeReg_status (s : State) (v : Word) :
    s.writeReg .status v = if v.getLsbD 8 then s.clearErr else s := rfl

theorem Inv.writeReg {s : State} (h : s.Inv) (r : PortReg) (v : Word) : (s.writeReg r v).Inv := by
  cases r
  case cmd => exact h.accept v
  case status =>
    rw [writeReg_status]
    split
    · exact h.clearErr
    · exact h
  case p => exact h.setP _
  case wdata => exact h.setWdata v
  case xstart => exact h.setXstart v
  case rdata | wstart | wlen | rxtime | capacity | reserved => exact h

theorem Inv.hostWrite {s : State} (h : s.Inv) (off : BitVec 6) (v : Word) : (s.hostWrite off v).Inv := by
  unfold State.hostWrite
  split
  · exact h.raise nofun
  · exact h.writeReg _ v

/-- A Host turn makes one register write, or touches nothing of the block (R102). -/
theorem hostTurn_cases (s : State) :
    (∃ off v rest, s.prog = .wr off v :: rest ∧ s.hostTurn = (s.hostWrite off v).setProg rest) ∨
    (∃ l rs d, s.hostTurn = { s with prog := l, results := rs, draws := d }) := by
  unfold hostTurn
  split
  · exact .inr ⟨_, _, _, rfl⟩
  · exact .inl ⟨_, _, _, ‹_›, rfl⟩
  · exact .inr ⟨_, _, _, rfl⟩
  · split
    · exact .inr ⟨_, _, _, rfl⟩
    · exact .inr ⟨_, _, _, rfl⟩

/-- A Producer turn appends the Producer's next byte to a queue that is not full, or changes nothing (R66). -/
theorem producerTurn_cases (s : State) :
    (∃ b rest, s.incoming = b :: rest ∧ s.qcount < s.cap ∧ s.producerTurn = (s.enqueue b).setIncoming rest) ∨
    s.producerTurn = s := by
  unfold producerTurn
  split
  · exact .inr rfl
  · split
    · exact .inl ⟨_, _, ‹_›, ‹_›, rfl⟩
    · exact .inr rfl

theorem Inv.hostTurn {s : State} (h : s.Inv) : s.hostTurn.Inv := by
  obtain ⟨off, v, rest, -, ht⟩ | ⟨l, rs, d, ht⟩ := s.hostTurn_cases
  · rw [ht]
    exact (h.hostWrite off v).setProg rest
  · rw [ht]
    exact { h with }

theorem Inv.producerTurn {s : State} (h : s.Inv) : s.producerTurn.Inv := by
  obtain ⟨b, rest, -, hroom, ht⟩ | ht := s.producerTurn_cases
  · rw [ht]
    exact (h.enqueue hroom b).setIncoming rest
  · rw [ht]
    exact h

end State

/-- Settles O54, one case for each way a step can go. -/
theorem everyStepKeepsTheInvariant : Obligations.EveryStepKeepsTheInvariant := by
  unfold Obligations.EveryStepKeepsTheInvariant
  intro s t h hstep
  have hp := h.popTurn
  obtain ⟨-, -, rfl⟩ | ⟨-, w, r, -, -, rfl⟩ | ⟨-, w, i, u, -, -, hx, rfl⟩ | ⟨-, rfl⟩ | ⟨-, rfl⟩ | ⟨-, rfl⟩ |
    ⟨-, rfl⟩ := step_cases hstep
  · exact hp
  · exact (hp.raise (c := .illegalCmd) nofun).retire
  · exact (exec_keeps_inv hp hx).retire
  · exact hp.hostTurn
  · exact hp.producerTurn
  · exact hp.applyReset
  · exact hp

end Sys2Proof.Machine

/-! ## The register port: offsets, reads and writes (R20, R21, R42 to R44) -/

namespace Sys2Proof.Machine

/-- The slot `o[5:2]` of an offset selects the register (R20, R21). -/
theorem portReg_of_slot {off : BitVec 6} (r : PortReg) (h : off.toNat / 4 = r.offset.toNat / 4) :
    portReg off = r := by
  unfold portReg
  rw [offset_slot, h]
  cases r <;> rfl

/-- Offsets 0x28 to 0x3C are reserved (R21). -/
theorem portReg_reserved {off : BitVec 6} : 0xA ≤ off.toNat / 4 → portReg off = .reserved := by
  revert off; decide

/-- Every other register has one slot (R20). -/
theorem slot_of_portReg {off : BitVec 6} :
    portReg off ≠ .reserved → off.toNat / 4 = (portReg off).offset.toNat / 4 := by
  revert off; decide

namespace State

variable {s : State}

theorem hostWrite_idle (hb : s.busy = false) (off : BitVec 6) (v : Word) :
    s.hostWrite off v = s.writeReg (portReg off) v := by simp only [hostWrite, hb, Bool.false_eq_true, if_false]

theorem hostWrite_busy (hb : s.busy = true) (off : BitVec 6) (v : Word) :
    s.hostWrite off v = s.raise .busyWrite := by simp only [hostWrite, hb, if_true]

/-- `raise` as one record update: ERR is 1 afterwards, and the first error's code stays (R255). -/
theorem raise_eq (s : State) (c : ErrCode) :
    s.raise c = { s with err := true, ecode := if s.err then s.ecode else c } := by
  unfold raise
  split
  · rename_i he
    rw [← he]
  · rfl

theorem readValue_idle (hb : s.busy = false) (r : PortReg) : s.readValue r = s.readReg r := by
  simp only [readValue, hb, Bool.false_eq_true, if_false]

theorem readValue_status_of_busy (hb : s.busy = true) : s.readValue .status = s.statusBusy := by
  simp only [readValue, hb, if_true]

theorem readValue_of_busy (hb : s.busy = true) {r : PortReg} (hr : r ≠ .status) : s.readValue r = s.drawWord := by
  simp only [readValue, hb, hr, if_true, if_false]

end State

/-- The fields of a STATUS word as a number (R23). -/
theorem statusOf_toNat (ec : BitVec 3) (er : Bool) (rc : BitVec 3) (ph : BitVec 2) (ok bu : Bool) :
    (statusOf ec er rc ph ok bu).toNat =
      (if bu then 1 else 0) + (if ok then 2 else 0) + 4 * ph.toNat + 16 * rc.toNat + (if er then 256 else 0)
        + 512 * ec.toNat := by
  revert ec er rc ph ok bu; decide +kernel

/-- An Engine turn runs the command that PENDING decodes to (R41, R100). -/
theorem step_of_decode {s : State} {w : Word} {i : Instr} (hn : s.nextTurn = .engine) (hp : s.pending = some w)
    (hd : decode w = .ok i) : step s = retired (exec i s.popTurn) := by
  have hp' : s.popTurn.pending = some w := hp
  simp only [step, hn, engineTurn, hp', runWord, hd]

/-- Settles O7: the state with the turn taken is the record update the statement writes out. -/
theorem engineTurnRunsTheDecodedCommand : Obligations.EngineTurnRunsTheDecodedCommand := by
  unfold Obligations.EngineTurnRunsTheDecodedCommand
  intro s w i hn hp hd
  rw [step_of_decode hn hp hd]
  show retired (exec i s.popTurn) = match exec i s.popTurn with | .next t => _ | .fault f => _ | .refused r => _
  cases exec i s.popTurn <;> rfl

/-- Settles O10: the slot selects the register, and each register has its write. -/
theorem hostWriteWhileIdle : Obligations.HostWriteWhileIdle := by
  unfold Obligations.HostWriteWhileIdle
  intro s off v hb
  rw [State.hostWrite_idle hb]
  refine ⟨fun h => ?_, fun h => ?_, fun h => ?_, fun h => ?_, fun h => ?_, fun h => ?_⟩
  · rw [portReg_of_slot .cmd h]; rfl
  · rw [portReg_of_slot .status h]; rfl
  · rw [portReg_of_slot .p h]; rfl
  · rw [portReg_of_slot .wdata h]; rfl
  · rw [portReg_of_slot .xstart h]; rfl
  · cases hr : portReg off
    case cmd | status | p | wdata | xstart =>
      have hslot := slot_of_portReg (off := off) (by rw [hr]; nofun)
      rw [hr] at hslot
      rw [hslot] at h
      exact absurd (by decide) h
    case rdata | wstart | wlen | rxtime | capacity | reserved => rfl

/-- Settles O11: the write is `raise` of BUSY_WRITE, whatever the offset. -/
theorem hostWriteWhileBusyIsDropped : Obligations.HostWriteWhileBusyIsDropped := by
  unfold Obligations.HostWriteWhileBusyIsDropped
  intro s off v hb
  rw [State.hostWrite_busy hb, State.raise_eq]

/-- Settles O12: the invariant bounds the numbers by CAP, which fits a register. -/
theorem hostReadWhileIdle : Obligations.HostReadWhileIdle := by
  unfold Obligations.HostReadWhileIdle
  intro s off hi hb
  have hcap := s.cap_le
  have hws := hi.wstart_lt
  have hxs := hi.xstart_lt
  have hwl := Nat.le_trans hi.wlen_le hi.qcount_le
  have small : ∀ n ≤ 65536, (BitVec.ofNat 32 n).toNat = n := fun n hn => by
    rw [BitVec.toNat_ofNat, Nat.mod_eq_of_lt (by omega)]
  rw [State.readValue_idle hb]
  refine ⟨fun h => ?_, fun h => ?_, fun h => ?_, fun h => ?_, fun h => ?_, fun h => ?_, fun h => ?_, fun h => ?_,
    fun h => ?_, fun h => ?_, fun h => ?_, ?_⟩
  · rw [portReg_of_slot .cmd h]; rfl
  · rw [portReg_of_slot .status h]; rfl
  · rw [portReg_of_slot .p h]
    exact BitVec.toNat_setWidth_of_le (by decide)
  · rw [portReg_of_slot .wdata h]; rfl
  · rw [portReg_of_slot .rdata h]; rfl
  · rw [portReg_of_slot .xstart h]
    exact small _ (by omega)
  · rw [portReg_of_slot .wstart h]
    exact small _ (by omega)
  · rw [portReg_of_slot .wlen h]
    exact small _ (by omega)
  · rw [portReg_of_slot .rxtime h]; rfl
  · rw [portReg_of_slot .capacity h]
    exact small _ hcap
  · rw [portReg_reserved h]; rfl
  · simp only [State.afterRead, State.readDraws, hb]
    rfl

/-- Settles O13, from STATUS's fields at their bits and four bytes as one number. -/
theorem hostReadWhileBusy : Obligations.HostReadWhileBusy := by
  unfold Obligations.HostReadWhileBusy
  intro s off hb
  refine ⟨fun h => ?_, fun h => ?_, ?_⟩
  · rw [portReg_of_slot .status h, State.readValue_status_of_busy hb]
    exact ⟨statusOf_busy _ _ _ _ _ _, statusOf_reserved _ _ _ _ _ _, statusOf_err _ _ _ _ _ _,
      statusOf_ecode _ _ _ _ _ _, statusOf_high _ _ _ _ _ _⟩
  · have hr : portReg off ≠ .status := fun hr => h (by rw [slot_of_portReg (by rw [hr]; nofun), hr]; rfl)
    rw [State.readValue_of_busy hb hr]
    exact State.toNat_append32 _ _ _ _
  · refine ⟨s.draws + s.readDraws (portReg off), ?_, rfl⟩
    simp only [State.readDraws, hb, statusBusyDraws, if_true]
    split <;> omega

/-- Settles O14: the word is a sum of its fields, compared one by one. -/
theorem statusFieldsAtTheirBits : Obligations.StatusFieldsAtTheirBits := by
  unfold Obligations.StatusFieldsAtTheirBits
  intro s
  rw [State.status, statusOf_toNat]
  congr 6
  · cases s.phase <;> rfl
  · cases s.rxcode <;> rfl
  · cases s.ecode <;> rfl

/-- Settles O52, with the invariant given condition by condition. -/
theorem resetValuesAndInvariant : Obligations.ResetValuesAndInvariant := by
  unfold Obligations.ResetValuesAndInvariant
  refine ⟨?_, rfl, rfl, rfl, rfl, rfl, rfl, rfl, rfl, rfl, rfl, rfl, rfl, rfl, rfl, rfl⟩
  exact {
    wstart_lt := State.cap_pos _
    xstart_lt := State.cap_pos _
    qhead_lt := State.cap_pos _
    qcount_le := Nat.zero_le _
    wlen_le := Nat.zero_le _
    not_validating := nofun
    empty_searching := fun _ => rfl
    ready_iff := ⟨nofun, nofun⟩
    rxok_iff := ⟨nofun, nofun⟩
    busy_iff := ⟨nofun, nofun⟩
    err_iff := ⟨fun _ => rfl, fun _ => rfl⟩
    mem_wf := List.Pairwise.nil
    mem_inside := nofun }

end Sys2Proof.Machine

/-! ## What the receive commands write (R40) -/

namespace Sys2Proof.Machine

/-- t differs from s at most in what the receive commands write: the window, the queue's counters, PHASE, RXOK,
RXCODE, RX_TIME, and the model's own counters. -/
def State.SameOutsideReceiver (s t : State) : Prop :=
  t = { s with
    wstart := t.wstart, wlen := t.wlen, phase := t.phase, rxtime := t.rxtime, rxok := t.rxok, rxcode := t.rxcode
    qhead := t.qhead, qcount := t.qcount, draws := t.draws, times := t.times }

theorem sameOutsideReceiver_closed (s : State) : RxincClosed s.SameOutsideReceiver where
  read t h := by unfold State.SameOutsideReceiver; rw [h]; rfl
  phase t f h := by unfold State.SameOutsideReceiver; rw [h]; rfl
  grow t h _ := by unfold State.SameOutsideReceiver; rw [h]; rfl
  report t ok c h := by unfold State.SameOutsideReceiver; rw [h]; rfl
  skip t h _ := by unfold State.SameOutsideReceiver; rw [h]; rfl

/-- RXALL moves neither the window's start nor the queue (R207). -/
theorem sameQueue_closed (s : State) :
    RxallClosed fun t => t.wstart = s.wstart ∧ t.qhead = s.qhead ∧ t.qcount = s.qcount where
  read _ h := h
  phase _ _ h := h
  grow _ h _ := h
  report _ _ _ h := h

/-- Settles O47, one case for each thing a command can do; a receive command's frame comes from its loop's parts. -/
theorem onlyTheListedCommandsWrite : Obligations.OnlyTheListedCommandsWrite := by
  unfold Obligations.OnlyTheListedCommandsWrite
  intro i s t h
  obtain ⟨hw, -, x, d, rfl⟩ | ⟨v, e, rfl, -, rfl⟩ | ⟨hw, m, d, rfl, -⟩ | ⟨n, rfl, hr⟩ | ⟨rfl, hr⟩ | ⟨rfl, -, rfl⟩ :=
    exec_cases h
  · simp [hw, State.byteAt, State.cap]
  · simp [Instr.opcode, State.byteAt, State.cap]
  · simp [hw, State.byteAt, State.cap]
  · have hs := (sameOutsideReceiver_closed s).receive hr rfl
    rw [hs]
    simp [Instr.opcode, State.byteAt, State.cap, Opcode.isReceiver]
  · have hs := (sameOutsideReceiver_closed s).toRxallClosed.receive hr rfl
    obtain ⟨h1, h2, h3⟩ := (sameQueue_closed s).receive hr ⟨rfl, rfl, rfl⟩
    rw [hs]
    simp [Instr.opcode, State.byteAt, State.cap, Opcode.isReceiver, h1, h2, h3]
  · simp [Instr.opcode, Opcode.isReceiver]

/-! ## RDATA over a step (R27) -/

/-- A command that changes RDATA is one that writes it, a CRC over a range of whole words if it is a CRC. -/
theorem exec_changes_rdata {i : Instr} {s t : State} (h : exec i s = .next t) (hne : t.rdata ≠ s.rdata) :
    i.opcode.writesRdata = true ∧ ∀ v e, i = .crc v e → crcRangeBad s.pOffset e = false := by
  obtain ⟨hw, hcrc, -⟩ | ⟨v, e, -, -, rfl⟩ | ⟨-, m, d, rfl, -⟩ | ⟨n, -, hr⟩ | ⟨-, hr⟩ | ⟨-, -, rfl⟩ := exec_cases h
  · exact ⟨hw, hcrc⟩
  · exact absurd (s.raise_rdata _) hne
  · exact absurd rfl hne
  · have hs := (sameOutsideReceiver_closed s).receive hr rfl
    exact absurd (congrArg State.rdata hs) hne
  · have hs := (sameOutsideReceiver_closed s).toRxallClosed.receive hr rfl
    exact absurd (congrArg State.rdata hs) hne
  · exact absurd rfl hne

namespace State

/-- The Host cannot write RDATA (R27). -/
theorem writeReg_rdata (s : State) (r : PortReg) (v : Word) : (s.writeReg r v).rdata = s.rdata := by
  cases r
  case status =>
    rw [writeReg_status]
    split <;> rfl
  all_goals rfl

theorem hostWrite_rdata (s : State) (off : BitVec 6) (v : Word) : (s.hostWrite off v).rdata = s.rdata := by
  unfold hostWrite
  split
  · exact s.raise_rdata _
  · exact s.writeReg_rdata _ v

theorem hostTurn_rdata (s : State) : s.hostTurn.rdata = s.rdata := by
  obtain ⟨off, v, rest, -, ht⟩ | ⟨l, rs, d, ht⟩ := s.hostTurn_cases
  · rw [ht]
    exact s.hostWrite_rdata off v
  · rw [ht]

theorem producerTurn_rdata (s : State) : s.producerTurn.rdata = s.rdata := by
  obtain ⟨b, rest, -, -, ht⟩ | ht := s.producerTurn_cases
  · rw [ht]
    rfl
  · rw [ht]

end State

/-- Settles O48: of the ways a step can go, only a reset and a command change RDATA. -/
theorem rdataChangesOnlyByResultCommands : Obligations.RdataChangesOnlyByResultCommands := by
  unfold Obligations.RdataChangesOnlyByResultCommands
  intro s t hstep hne
  obtain ⟨-, -, rfl⟩ | ⟨-, w, r, -, -, rfl⟩ | ⟨hn, w, i, u, hp, hd, hx, rfl⟩ | ⟨-, rfl⟩ | ⟨-, rfl⟩ | ⟨hn, -⟩ |
    ⟨-, rfl⟩ := step_cases hstep
  · exact absurd rfl hne
  · exact absurd (s.popTurn.raise_rdata _) hne
  · obtain ⟨hw, hcrc⟩ := exec_changes_rdata hx hne
    refine .inr ⟨hn, w, i, hp, hd, hw, fun v e hi => ?_⟩
    have hok := hcrc v e hi
    rw [Bool.eq_false_iff, Ne, crcRangeBad_iff] at hok
    simp only [State.pOffset, State.popTurn_p] at hok
    omega
  · exact absurd s.popTurn.hostTurn_rdata hne
  · exact absurd s.popTurn.producerTurn_rdata hne
  · exact .inl hn
  · exact absurd rfl hne

/-! ## The window of a booted receiver (R32), and I5 after an RXINC (R46) -/

theorem State.Booted.phys_window {s : State} (hb : s.Booted) (k : Nat) :
    s.phys .window k = (s.qhead + k) % s.cap := by
  rw [State.phys, State.base, hb]

/-- Settles O57: a booted window starts at the queue's head and is no longer than the queue. -/
theorem windowBytesAreQueued : Obligations.WindowBytesAreQueued := by
  unfold Obligations.WindowBytesAreQueued
  intro s h hb
  refine ⟨s.win_length, fun k hk => ⟨?_, ?_⟩⟩
  · rw [hb.phys_window]
    exact State.inQueue_head_add h.qhead_lt h.qcount_le (Nat.lt_of_lt_of_le hk h.wlen_le)
  · rw [State.win_eq_winBytes hb h.qhead_lt h.qcount_le h.wlen_le, State.winBytes]
    simp [hk]

/-- Settles O58: a held frame is not empty, and the loop of RXINC ends with a frame accepted or with PHASE telling
whether the window is empty. -/
theorem searchingMeansEmptyAfterRxinc : Obligations.SearchingMeansEmptyAfterRxinc := by
  unfold Obligations.SearchingMeansEmptyAfterRxinc
  intro s t n h hx hcode
  obtain ⟨hr, rfl⟩ | ⟨-, -, -, rfl⟩ | ⟨-, -, hb, rfl⟩ := receive_cases hx
  · exact iff_of_false (by simp [hr]) (Nat.ne_of_gt (h.wlen_pos_of_ready hr))
  · exact absurd rfl hcode
  · obtain ⟨hp, hw, -, -⟩ | ⟨⟨hp, hw⟩ | ⟨hp, hw⟩, -, -⟩ := rxincLoop_ends _ s (.inl hb)
    · exact iff_of_false (by simp [hp]) (Nat.ne_of_gt hw)
    · exact iff_of_true hp hw
    · exact iff_of_false (by simp [hp]) (Nat.ne_of_gt hw)

end Sys2Proof.Machine

/-! PROOFS. Storage, the Byte Queue and the Producer (20_memory.md). -/

namespace Sys2Proof.Machine

namespace State

variable {s : State}

theorem inQueue_eq_true_iff {a : Nat} : s.inQueue a = true ↔ (a + s.cap - s.qhead) % s.cap < s.qcount :=
  decide_eq_true_iff

theorem inQueue_eq_false_iff {a : Nat} : s.inQueue a = false ↔ s.qcount ≤ (a + s.cap - s.qhead) % s.cap := by
  rw [← Bool.not_eq_true, inQueue_eq_true_iff, Nat.not_lt]

/-! ## The queue as a list -/

/-- The index an append writes, the queue's tail, is not the index of a queued byte: CAP successive indices are
distinct modulo CAP. -/
theorem queuedIndex_ne_tail (hroom : s.qcount < s.cap) {k : Nat} (hk : k < s.qcount) :
    (s.qhead + k) % s.cap ≠ (s.qhead + s.qcount) % s.cap := fun h =>
  Nat.ne_of_lt hk (Nat.ModEq.eq_of_lt_of_lt (Nat.ModEq.add_left_cancel' s.qhead h) (hk.trans hroom) hroom)

theorem queued_enqueue (hroom : s.qcount < s.cap) (b : Byte) : (s.enqueue b).queued = s.queued ++ [b] := by
  have hold : ∀ k ∈ List.range s.qcount,
      (s.enqueue b).byteAt ((s.qhead + k) % s.cap) = s.byteAt ((s.qhead + k) % s.cap) := fun k hk => by
    rw [byteAt_enqueue, if_neg (queuedIndex_ne_tail hroom (List.mem_range.1 hk))]
  have hnew : (s.enqueue b).byteAt ((s.qhead + s.qcount) % s.cap) = b := by rw [byteAt_enqueue, if_pos rfl]
  calc (s.enqueue b).queued
      = (List.range (s.qcount + 1)).map fun k => (s.enqueue b).byteAt ((s.qhead + k) % s.cap) := rfl
    _ = (List.range s.qcount).map (fun k => (s.enqueue b).byteAt ((s.qhead + k) % s.cap)) ++ [b] := by
        rw [List.range_succ, List.map_append, List.map_singleton, hnew]
    _ = s.queued ++ [b] := by rw [List.map_congr_left hold, queued]

/-- Byte k behind the new head is byte n + k behind the old one. -/
theorem queued_consume (s : State) (n : Nat) : (s.consume n).queued = s.queued.drop n := by
  have hbyte : ∀ k, (s.consume n).byteAt (((s.qhead + n) % s.cap + k) % s.cap) =
      s.byteAt ((s.qhead + (n + k)) % s.cap) := fun k => by
    rw [Nat.mod_add_mod, Nat.add_assoc]
    rfl
  refine List.ext_getElem (by simp [queued]) fun k _ _ => ?_
  simpa [queued, cap] using hbyte k

/-! ## The Producer's turn (R66, R68) -/

theorem producerTurn_of_room {b : Byte} {rest : List Byte} (hin : s.incoming = b :: rest) (hroom : s.qcount < s.cap) :
    s.producerTurn = (s.enqueue b).setIncoming rest := by
  simp only [producerTurn, hin, hroom, if_true]

theorem producerTurn_of_full (hfull : s.cap ≤ s.qcount) : s.producerTurn = s := by
  obtain ⟨-, -, -, hroom, -⟩ | h := s.producerTurn_cases
  · exact absurd hroom (Nat.not_lt.2 hfull)
  · exact h

end State

theorem step_of_producer {s : State} (hn : s.nextTurn = .producer) : step s = .next s.popTurn.producerTurn := by
  simp only [step, hn]

/-- Settles O16, from what an append and a consume do to the queue as a list. -/
theorem queueIsAFifo : Obligations.QueueIsAFifo := by
  unfold Obligations.QueueIsAFifo
  intro s _ _
  exact ⟨fun b hroom => State.queued_enqueue hroom b, fun n _ => s.queued_consume n⟩

/-- Settles O15: the turn is an append where the queue has room, and leaves the state as it is where it is full. -/
theorem producerTurnAppendsOrWaits : Obligations.ProducerTurnAppendsOrWaits := by
  unfold Obligations.ProducerTurnAppendsOrWaits
  intro s b rest hn hin
  rw [step_of_producer hn]
  refine ⟨fun hroom => ⟨_, rfl, ?_⟩, fun hfull => ?_⟩
  · have ht : s.popTurn.producerTurn = (s.popTurn.enqueue b).setIncoming rest :=
      State.producerTurn_of_room (s := s.popTurn) hin hroom
    rw [ht]
    exact ⟨rfl, s.popTurn.byteAt_enqueue b⟩
  · rw [State.producerTurn_of_full (s := s.popTurn) hfull]
    rfl

/-- Settles O17: the region the rule writes out is the one `inQueue` decides. -/
theorem storageReadInsideAndOutsideTheQueue : Obligations.StorageReadInsideAndOutsideTheQueue := by
  unfold Obligations.StorageReadInsideAndOutsideTheQueue
  intro s a k
  exact ⟨fun h => State.memRead_inside (State.inQueue_eq_true_iff.2 h) k,
    fun h => State.memRead_outside (State.inQueue_eq_false_iff.2 h) k⟩

end Sys2Proof.Machine

/-! PROOFS. Command words and host statements (30_encoding.md). -/

namespace Sys2Proof

/-! ## A command and its fields (R93, R94, R96, R97) -/

namespace Instr

theorem wf_iff {i : Instr} : i.wf = true ↔ i.bitNum < 8 ∧ i.imm < 65536 := by
  cases i <;> simp [wf, bitNum, imm, bitFits, immFits]

theorem view_of_unused {i : Instr} (h : i.opcode.usesView = false) : i.view = .window := by
  cases i
  case wrap | rxinc | rxall | rxdone => rfl
  all_goals exact nomatch h

theorem bitNum_of_unused {i : Instr} (h : i.opcode.usesBit = false) : i.bitNum = 0 := by
  cases i
  case getbool | setbool => exact nomatch h
  all_goals rfl

theorem imm_of_unused {i : Instr} (h : i.opcode.usesImm = false) : i.imm = 0 := by
  cases i
  case wrap | rxall | rxdone => rfl
  all_goals exact nomatch h

@[simp] theorem build_fields (i : Instr) : i.opcode.build i.view i.bitNum i.imm = i := by cases i <;> rfl

end Instr

namespace Opcode

section build
variable (op : Opcode) (v : View) (b n : Nat)

@[simp] theorem opcode_build : (op.build v b n).opcode = op := by cases op <;> rfl

theorem view_build : (op.build v b n).view = if op.usesView then v else .window := by cases op <;> rfl

theorem bitNum_build : (op.build v b n).bitNum = if op.usesBit then b else 0 := by cases op <;> rfl

theorem imm_build : (op.build v b n).imm = if op.usesImm then n else 0 := by cases op <;> rfl

end build

/-- A command whose operands fit the fields of a word is one a word can hold. -/
theorem wf_build (op : Opcode) (v : View) {b n : Nat} (hb : b < 8) (hn : n < 65536) : (op.build v b n).wf = true := by
  rw [Instr.wf_iff, bitNum_build, imm_build]
  constructor <;> split <;> omega

end Opcode

/-! ## What makes a word legal (R95, R96) -/

theorem reservedSet_eq_false_iff {w : Word} : reservedSet w = false ↔ reservedHi w = 0#1 ∧ reservedLo w = 0#5 := by
  simp [reservedSet]

theorem unusedSet_eq_false_iff {op : Opcode} {w : Word} :
    unusedSet op w = false ↔ (op.usesView = false → viewField w = 0#1) ∧ (op.usesBit = false → bitField w = 0#3)
      ∧ (op.usesImm = false → immField w = 0#16) := by
  simp [unusedSet, and_assoc]

/-! ## The fields of a command's word (R97, R101) -/

section encode
variable (i : Instr)

@[simp] theorem opcField_encode : opcField (encode i) = i.opcode.code := opcField_formatC ..
@[simp] theorem viewField_encode : viewField (encode i) = i.view.bit := viewField_formatC ..
@[simp] theorem reservedHi_encode : reservedHi (encode i) = 0#1 := reservedHi_formatC ..
@[simp] theorem bitField_encode : bitField (encode i) = BitVec.ofNat 3 i.bitNum := bitField_formatC ..
@[simp] theorem reservedLo_encode : reservedLo (encode i) = 0#5 := reservedLo_formatC ..
@[simp] theorem immField_encode : immField (encode i) = BitVec.ofNat 16 i.imm := immField_formatC ..

theorem unusedSet_encode : unusedSet i.opcode (encode i) = false := by
  refine unusedSet_eq_false_iff.2 ⟨fun h => ?_, fun h => ?_, fun h => ?_⟩
  · rw [viewField_encode, i.view_of_unused h]; rfl
  · rw [bitField_encode, i.bitNum_of_unused h]
  · rw [immField_encode, i.imm_of_unused h]

end encode

theorem toNat_bitField_encode {i : Instr} (h : i.wf = true) : (bitField (encode i)).toNat = i.bitNum := by
  rw [bitField_encode, BitVec.toNat_ofNat, Nat.mod_eq_of_lt (Instr.wf_iff.1 h).1]

theorem toNat_immField_encode {i : Instr} (h : i.wf = true) : (immField (encode i)).toNat = i.imm := by
  rw [immField_encode, BitVec.toNat_ofNat, Nat.mod_eq_of_lt (Instr.wf_iff.1 h).2]

/-- Settles O2: the word holds the opcode and the fields a command is built from, its reserved and unused bits 0. -/
theorem decodeOfEncode : Obligations.DecodeOfEncode := by
  unfold Obligations.DecodeOfEncode
  intro i h
  refine decode_eq_ok.2 ⟨i.opcode, ?_, Laws.ReservedBitsZero.any i, unusedSet_encode i, ?_⟩
  · rw [opcField_encode, Opcode.ofCode_code]
  · rw [viewField_encode, View.ofBit_bit, toNat_bitField_encode h, toNat_immField_encode h, Instr.build_fields]

/-- Settles O3: the two words agree field by field; a field the command does not use is 0 in both. -/
theorem encodeOfDecode : Obligations.EncodeOfDecode := by
  unfold Obligations.EncodeOfDecode
  intro w i h
  obtain ⟨op, hop, hr, hu, rfl⟩ := decode_eq_ok.1 h
  obtain ⟨hhi, hlo⟩ := reservedSet_eq_false_iff.1 hr
  obtain ⟨hv, hb, hi⟩ := unusedSet_eq_false_iff.1 hu
  refine ⟨op.wf_build _ (bitField w).isLt (immField w).isLt, word_ext ?_ ?_ ?_ ?_ ?_ ?_⟩
  · rw [opcField_encode, Opcode.opcode_build, Opcode.code_of_ofCode hop]
  · rw [viewField_encode, Opcode.view_build]
    split
    · exact View.bit_ofBit _
    · exact (hv (Bool.eq_false_of_not_eq_true ‹_›)).symm
  · rw [reservedHi_encode, hhi]
  · rw [bitField_encode, Opcode.bitNum_build]
    split
    · simp
    · exact (hb (Bool.eq_false_of_not_eq_true ‹_›)).symm
  · rw [reservedLo_encode, hlo]
  · rw [immField_encode, Opcode.imm_build]
    split
    · simp
    · exact (hi (Bool.eq_false_of_not_eq_true ‹_›)).symm

/-- Settles O6: a format-C word as a number, with operands that fit their fields. -/
theorem encodeIsTheShiftFormula : Obligations.EncodeIsTheShiftFormula := by
  unfold Obligations.EncodeIsTheShiftFormula
  intro i h
  obtain ⟨hb, hi⟩ := Instr.wf_iff.1 h
  rw [encode, toNat_formatC, BitVec.toNat_ofNat, BitVec.toNat_ofNat, Nat.mod_eq_of_lt hb, Nat.mod_eq_of_lt hi]

/-! ## The rows of the opcode map (R97, R100) -/

section conjunction
variable (w x : Word)

@[simp] theorem opcField_and : opcField (w &&& x) = opcField w &&& opcField x := BitVec.extractLsb'_and
@[simp] theorem viewField_and : viewField (w &&& x) = viewField w &&& viewField x := BitVec.extractLsb'_and
@[simp] theorem reservedHi_and : reservedHi (w &&& x) = reservedHi w &&& reservedHi x := BitVec.extractLsb'_and
@[simp] theorem bitField_and : bitField (w &&& x) = bitField w &&& bitField x := BitVec.extractLsb'_and
@[simp] theorem reservedLo_and : reservedLo (w &&& x) = reservedLo w &&& reservedLo x := BitVec.extractLsb'_and
@[simp] theorem immField_and : immField (w &&& x) = immField w &&& immField x := BitVec.extractLsb'_and

end conjunction

theorem eq_formatC_iff {w : Word} {o : BitVec 6} {v : BitVec 1} {b : BitVec 3} {i : BitVec 16} :
    w = formatC o v b i ↔ opcField w = o ∧ reservedHi w = 0#1 ∧ reservedLo w = 0#5 ∧ viewField w = v
      ∧ bitField w = b ∧ immField w = i := by
  constructor
  · rintro rfl
    simp
  · rintro ⟨rfl, hhi, hlo, rfl, rfl, rfl⟩
    exact (formatC_of_fields w hhi hlo).symm

/-- A field is 0 under a row's mask exactly when it is 0 or the row's command uses it. -/
theorem and_unusedMask_eq_zero_iff {n : Nat} (x : BitVec n) (used : Bool) :
    (x &&& if used then 0#n else BitVec.allOnes n) = 0#n ↔ (used = false → x = 0#n) := by
  cases used <;> simp

namespace Opcode

theorem ofCode_eq_some_iff {c : BitVec 6} {op : Opcode} : ofCode c = some op ↔ c = op.code :=
  ⟨fun h => (code_of_ofCode h).symm, fun h => h ▸ ofCode_code op⟩

theorem matchWord_eq (op : Opcode) : op.matchWord = formatC op.code 0#1 0#3 0#16 := by cases op <;> rfl

/-- A row's mask covers OPC, the reserved bits and the fields the command does not use. -/
theorem maskWord_fields (op : Opcode) :
    opcField op.maskWord = BitVec.allOnes 6 ∧ reservedHi op.maskWord = BitVec.allOnes 1
      ∧ reservedLo op.maskWord = BitVec.allOnes 5
      ∧ viewField op.maskWord = (if op.usesView then 0#1 else BitVec.allOnes 1)
      ∧ bitField op.maskWord = (if op.usesBit then 0#3 else BitVec.allOnes 3)
      ∧ immField op.maskWord = (if op.usesImm then 0#16 else BitVec.allOnes 16) := by
  cases op <;> decide

/-- A word matches a row exactly when it has the row's opcode and its reserved and unused bits are 0. -/
theorem matches_iff (op : Opcode) (w : Word) :
    w &&& op.maskWord = op.matchWord ↔ opcField w = op.code ∧ reservedSet w = false ∧ unusedSet op w = false := by
  obtain ⟨mo, mhi, mlo, mv, mb, mi⟩ := op.maskWord_fields
  rw [matchWord_eq, eq_formatC_iff, reservedSet_eq_false_iff, unusedSet_eq_false_iff, opcField_and, reservedHi_and,
    reservedLo_and, viewField_and, bitField_and, immField_and, mo, mhi, mlo, mv, mb, mi]
  simp only [BitVec.and_allOnes, and_unusedMask_eq_zero_iff, and_assoc]

end Opcode

theorem decode_eq_ok_iff_row {w : Word} {i : Instr} :
    decode w = .ok i ↔ ∃ op : Opcode, w &&& op.maskWord = op.matchWord
      ∧ i = op.build (View.ofBit (viewField w)) (bitField w).toNat (immField w).toNat := by
  simp only [decode_eq_ok, Opcode.ofCode_eq_some_iff, Opcode.matches_iff, and_assoc]

theorem exists_decode_error_iff {w : Word} : (∃ r, decode w = .error r) ↔ ∀ i, decode w ≠ .ok i := by
  cases decode w <;> simp

/-- Settles O4: a word decodes to a command exactly by a row it matches. -/
theorem decodeIsTheTableLoop : Obligations.DecodeIsTheTableLoop := by
  unfold Obligations.DecodeIsTheTableLoop
  intro w
  refine ⟨fun op h => decode_eq_ok_iff_row.2 ⟨op, h, rfl⟩, fun h => exists_decode_error_iff.2 fun i hi => ?_⟩
  obtain ⟨op, hop, -⟩ := decode_eq_ok_iff_row.1 hi
  exact h op hop

/-! ## Illegal words (R98) -/

namespace Opcode

theorem ofCode_eq_none_iff {c : BitVec 6} :
    ofCode c = none ↔ c.toNat = 0x00 ∨ (0x13 ≤ c.toNat ∧ c.toNat ≤ 0x17) ∨ 0x1B ≤ c.toNat := by
  revert c
  decide

theorem usesView_eq_false_iff (op : Opcode) : op.usesView = false ↔ op.code.toNat ∈ [0x11, 0x18, 0x19, 0x1A] := by
  cases op <;> decide

theorem usesBit_eq_false_iff (op : Opcode) : op.usesBit = false ↔ op.code.toNat ∉ [0x08, 0x10] := by
  cases op <;> decide

theorem usesImm_eq_false_iff (op : Opcode) : op.usesImm = false ↔ op.code.toNat ∈ [0x11, 0x19, 0x1A] := by
  cases op <;> decide

end Opcode

theorem extractLsb'_one_eq_zero_iff {w : Word} {k : Nat} : w.extractLsb' k 1 = 0#1 ↔ w.getLsbD k = false := by
  simp [BitVec.eq_of_getLsbD_eq_iff]

theorem exists_decode_error_of_unassigned {w : Word} (h : Opcode.ofCode (opcField w) = none) :
    ∃ r, decode w = .error r :=
  ⟨.unassignedOpcode, by rw [decode, h]⟩

theorem exists_decode_error_iff_of_opcode {w : Word} {op : Opcode} (h : Opcode.ofCode (opcField w) = some op) :
    (∃ r, decode w = .error r) ↔ ¬ (reservedSet w = false ∧ unusedSet op w = false) := by
  rw [decode, h]
  cases reservedSet w <;> cases hu : unusedSet op w <;> simp [hu]

/-- Settles O5, by whether the word's OPC is assigned. -/
theorem illegalWordsExactly : Obligations.IllegalWordsExactly := by
  unfold Obligations.IllegalWordsExactly
  intro w
  cases h : Opcode.ofCode (opcField w) with
  | none => exact iff_of_true (exists_decode_error_of_unassigned h) (.inl (Opcode.ofCode_eq_none_iff.1 h))
  | some op =>
    have assigned := mt Opcode.ofCode_eq_none_iff.2 (h ▸ Option.some_ne_none op)
    have hcode : opcField w = op.code := Opcode.ofCode_eq_some_iff.1 h
    rw [exists_decode_error_iff_of_opcode h, reservedSet_eq_false_iff, unusedSet_eq_false_iff, op.usesView_eq_false_iff,
      op.usesBit_eq_false_iff, op.usesImm_eq_false_iff, ← hcode]
    refine Iff.trans ?_ (or_iff_right assigned).symm
    simp only [reservedHi, reservedLo, viewField, bitField, immField, opcField, extractLsb'_one_eq_zero_iff,
      not_and_or, Classical.not_imp, Bool.not_eq_false, or_assoc, ne_eq]

/-- Settles O1: each word by running `decode`. -/
theorem specWordsDecode : Obligations.SpecWordsDecode := by
  unfold Obligations.SpecWordsDecode
  refine ⟨rfl, rfl, rfl, rfl, rfl, rfl, rfl, rfl, rfl, rfl, fun w hw => ?_⟩
  fin_cases hw <;> exact ⟨_, rfl⟩

end Sys2Proof

/-! ## Host statements (R102) -/

namespace Sys2Proof.Machine

namespace State

variable {s : State} {rest : List HostStmt}

theorem hostTurn_wr {off : BitVec 6} {v : Word} (h : s.prog = .wr off v :: rest) :
    s.hostTurn = (s.hostWrite off v).setProg rest := by
  simp only [hostTurn, h]

theorem hostTurn_rd {off : BitVec 6} (h : s.prog = .rd off :: rest) :
    s.hostTurn = { s with
      prog := rest
      results := s.readValue (portReg off) :: s.results
      draws := s.draws + s.readDraws (portReg off) } := by
  simp only [hostTurn, h, afterRead, useDraws, record, setProg]

theorem hostTurn_wait (h : s.prog = .wait :: rest) :
    s.hostTurn = { s with
      prog := if s.busy then .wait :: rest else rest
      draws := s.draws + s.readDraws .status } := by
  simp only [hostTurn, h, readValue_status_busy, afterRead, useDraws, setProg]
  cases s.busy <;> rfl

end State

theorem step_of_host {s : State} (hn : s.nextTurn = .host) : step s = .next s.popTurn.hostTurn := by
  simp only [step, hn]

/-- Settles O9, one case for each kind of statement. -/
theorem hostTurnRunsItsStatement : Obligations.HostTurnRunsItsStatement := by
  unfold Obligations.HostTurnRunsItsStatement
  intro s rest hn
  rw [step_of_host hn]
  refine ⟨fun off v h => ?_, fun off h => ?_, fun h => ?_⟩
  · rw [State.hostTurn_wr (s := s.popTurn) h]
    rfl
  · rw [State.hostTurn_rd (s := s.popTurn) h]
    exact ⟨_, rfl⟩
  · rw [State.hostTurn_wait (s := s.popTurn) h]
    exact ⟨_, rfl⟩

end Sys2Proof.Machine

/-! PROOFS. The field readers, and what they read back of a SET (40_transcoder_get.md). -/

namespace Sys2Proof

/-! ## A narrow value in a register (R121, R124, R128) -/

theorem toInt_setWidth_of_narrow {n : Nat} (x : BitVec n) (h : n < 32) : (x.setWidth 32).toInt = x.toNat := by
  have hx : (x.setWidth 32).toNat = x.toNat := BitVec.toNat_setWidth_of_le (Nat.le_of_lt h)
  have hlt : x.toNat < 2 ^ 31 := Nat.lt_of_lt_of_le x.isLt (Nat.pow_le_pow_right (by decide) (Nat.le_of_lt_succ h))
  rw [BitVec.toInt_eq_toNat_of_lt (by omega), hx]

theorem toNat_setWidth_ofBool (on : Bool) : ((BitVec.ofBool on).setWidth 32).toNat = on.toNat := by
  rw [BitVec.toNat_setWidth_of_le (by decide), BitVec.toNat_ofBool]

theorem toNat_getLsbD {n : Nat} (x : BitVec n) (b : Nat) : (x.getLsbD b).toNat = x.toNat / 2 ^ b % 2 := by
  rw [← BitVec.testBit_toNat, Nat.toNat_testBit]

/-! ## The low bits of a word, as a SET stores them and the GET of that width extends them (R104, R129) -/

theorem toInt_setWidth_low (w : Word) {n : Nat} (h : n < 32) :
    ((w.extractLsb' 0 n).setWidth 32).toInt = (w.toNat % 2 ^ n : Nat) := by
  rw [toInt_setWidth_of_narrow _ h, BitVec.extractLsb'_toNat, Nat.shiftRight_zero]

theorem toInt_signExtend_low (w : Word) {n : Nat} (h : n ≤ 32) :
    ((w.extractLsb' 0 n).signExtend 32).toInt = Int.bmod w.toNat (2 ^ n) := by
  rw [BitVec.toInt_signExtend_of_le h, BitVec.toInt_extractLsb', Nat.shiftRight_zero]

theorem append_bytes16 (x : BitVec 16) : x.extractLsb' 8 8 ++ x.extractLsb' 0 8 = x :=
  (BitVec.extractLsb'_append_extractLsb'_eq_extractLsb' rfl).trans BitVec.extractLsb'_eq_self

theorem append_bytes32 (x : Word) :
    x.extractLsb' 24 8 ++ x.extractLsb' 16 8 ++ x.extractLsb' 8 8 ++ x.extractLsb' 0 8 = x := by
  rw [BitVec.extractLsb'_append_extractLsb'_eq_extractLsb' (rfl : 24 = 16 + 8),
    BitVec.extractLsb'_append_extractLsb'_eq_extractLsb' (rfl : 16 = 8 + 8),
    BitVec.extractLsb'_append_extractLsb'_eq_extractLsb' (rfl : 8 = 0 + 8)]
  exact BitVec.extractLsb'_eq_self

theorem Opcode.not_set_receiver_crc_of_reader :
    ∀ op ∈ [Opcode.getu8, .geti8, .getu16, .geti16, .getu32, .geti32, .getf32, .getbool],
      op.writesStorage = false ∧ op.isReceiver = false ∧ op ≠ .crc := by decide

end Sys2Proof

namespace Sys2Proof.Machine

namespace State

/-! ## Fields as numbers (R69, R120) -/

theorem toNat_fetch16 (s : State) (v : View) (i : Nat) :
    (s.fetch16 v i).toNat = 256 * (s.fieldByte v i 0).toNat + (s.fieldByte v i 1).toNat :=
  toNat_append16 _ _

theorem toNat_fetch32 (s : State) (v : View) (i : Nat) :
    (s.fetch32 v i).toNat = 16777216 * (s.fieldByte v i 0).toNat + 65536 * (s.fieldByte v i 1).toNat
      + 256 * (s.fieldByte v i 2).toNat + (s.fieldByte v i 3).toNat :=
  toNat_append32 _ _ _ _

/-! ## Reading back a stored field (R129): its bytes are queued, and no byte of it overwrites another -/

variable {s : State} {v : View} {i : Nat}

theorem fetch_store8 (hq : s.inQueue (s.fieldIndex v i 0) = true) (x : Byte) : (s.store8 v i x).fetch v i 0 = x := by
  rw [fetch_inside (by simpa using hq), byteAt_store8, store8_fieldIndex, if_pos rfl]

theorem fetch16_store16 (hW : 2 ≤ s.cap) (hq : ∀ k < 2, s.inQueue (s.fieldIndex v i k) = true) (x : BitVec 16) :
    (s.store16 v i x).fetch16 v i = x := by
  have read : ∀ k < 2, (s.store16 v i x).fetch v i k = (s.store16 v i x).byteAt (s.fieldIndex v i k) := fun k hk => by
    rw [fetch_inside (by simpa using hq k hk), store16_fieldIndex]
  have apart : s.fieldIndex v i 0 ≠ s.fieldIndex v i 1 := fieldIndex_ne hW (by decide) (by decide) (by decide)
  simp [fetch16, read, byteAt_store16, apart, append_bytes16]

theorem fetch32_store32 (hW : 4 ≤ s.cap) (hq : ∀ k < 4, s.inQueue (s.fieldIndex v i k) = true) (x : Word) :
    (s.store32 v i x).fetch32 v i = x := by
  have read : ∀ k < 4, (s.store32 v i x).fetch v i k = (s.store32 v i x).byteAt (s.fieldIndex v i k) := fun k hk => by
    rw [fetch_inside (by simpa using hq k hk), store32_fieldIndex]
  have apart : ∀ {j k : Nat}, j < 4 → k < 4 → j ≠ k → s.fieldIndex v i j ≠ s.fieldIndex v i k := fieldIndex_ne hW
  simp [fetch32, read, byteAt_store32, apart, append_bytes32]

end State

/-- SETBOOL of a queued byte leaves the byte with bit b replaced, for a GET to read (R129, R158). -/
theorem fetch_of_setbool {s t : State} {v : View} {b i : Nat} (hq : s.inQueue (s.fieldIndex v i 0) = true)
    (h : exec (.setbool v b i) s = .next t) :
    t.fetch v i 0 = withBit (s.byteAt (s.fieldIndex v i 0)) b s.boolValue := by
  cases h
  rw [State.fetch_inside (by simpa using hq)]
  simp [State.byteAt_store, State.fetch_inside hq]

/-- Settles O18: RDATA is the field itself, zero-extended where it is narrower than a word. -/
theorem unsignedReadsAreBigEndian : Obligations.UnsignedReadsAreBigEndian := by
  unfold Obligations.UnsignedReadsAreBigEndian
  intro s v i
  refine ⟨⟨_, rfl, ?_⟩, ⟨_, rfl, ?_⟩, ⟨_, rfl, ?_⟩, ⟨_, rfl, ?_⟩⟩
  · exact BitVec.toNat_setWidth_of_le (by decide)
  · exact (BitVec.toNat_setWidth_of_le (by decide)).trans (s.toNat_fetch16 v i)
  · exact s.toNat_fetch32 v i
  · exact s.toNat_fetch32 v i

/-- Settles O19: sign extension keeps the two's-complement value of the field. -/
theorem signedReadsKeepTheSignedValue : Obligations.SignedReadsKeepTheSignedValue := by
  unfold Obligations.SignedReadsKeepTheSignedValue
  intro s v i
  refine ⟨⟨_, rfl, ?_⟩, ⟨_, rfl, ?_⟩, ⟨_, rfl, ?_⟩⟩
  · exact (BitVec.toInt_signExtend_of_le (by decide)).trans (BitVec.toInt_eq_toNat_bmod _)
  · show ((s.fetch16 v i).signExtend 32).toInt = _
    rw [BitVec.toInt_signExtend_of_le (by decide), BitVec.toInt_eq_toNat_bmod, s.toNat_fetch16]
    rfl
  · show (s.fetch32 v i).toInt = _
    rw [BitVec.toInt_eq_toNat_bmod, s.toNat_fetch32]
    rfl

/-- Settles O20: RDATA is the bit as a number. -/
theorem getBoolReadsOneBit : Obligations.GetBoolReadsOneBit := by
  unfold Obligations.GetBoolReadsOneBit
  intro s v b i _
  exact ⟨_, rfl, (toNat_setWidth_ofBool _).trans (toNat_getLsbD _ b)⟩

/-- Settles O21: of the things a command can do, a GET only writes a result. -/
theorem getFrame : Obligations.GetFrame := by
  unfold Obligations.GetFrame
  intro i s t hi h
  obtain ⟨hset, hrx, hcrc⟩ := Opcode.not_set_receiver_crc_of_reader _ hi
  obtain ⟨-, -, x, d, rfl⟩ | ⟨v, e, rfl, -⟩ | ⟨hw, -⟩ | ⟨n, rfl, -⟩ | ⟨rfl, -⟩ | ⟨rfl, -⟩ := exec_cases h
  · exact ⟨rfl, fun _ => rfl⟩
  · exact absurd rfl hcrc
  · exact absurd hw (Bool.eq_false_iff.1 hset)
  · exact nomatch hrx
  · exact nomatch hrx
  · exact nomatch hrx

/-- Settles O24, one case for each pair of a writer and its reader: the GET fetches the value the SET stored. -/
theorem roundTripThroughStorage : Obligations.RoundTripThroughStorage := by
  unfold Obligations.RoundTripThroughStorage
  intro s v i W set get expected hmem hW hqueued
  have hq : ∀ k < W, s.inQueue (s.fieldIndex v i k) = true := hqueued
  simp only [List.mem_cons, Prod.mk.injEq, List.not_mem_nil, or_false] at hmem
  obtain ⟨rfl, rfl, rfl, he⟩ | ⟨rfl, rfl, rfl, he⟩ | ⟨rfl, rfl, rfl, he⟩ | ⟨rfl, rfl, rfl, he⟩ |
    ⟨rfl, rfl, rfl, he⟩ | ⟨rfl, rfl, rfl, he⟩ | ⟨rfl, rfl, rfl, he⟩ := hmem <;> refine ⟨_, _, rfl, rfl, he ▸ ?_⟩
  · show (((s.store8 v i s.store8Value).fetch v i 0).setWidth 32).toInt = _
    rw [State.fetch_store8 (hq 0 (by decide)), State.store8Value, toInt_setWidth_low _ (by decide)]
  · show (((s.store8 v i s.store8Value).fetch v i 0).signExtend 32).toInt = _
    rw [State.fetch_store8 (hq 0 (by decide)), State.store8Value, toInt_signExtend_low _ (by decide)]
  · show (((s.store16 v i s.store16Value).fetch16 v i).setWidth 32).toInt = _
    rw [State.fetch16_store16 hW hq, State.store16Value, toInt_setWidth_low _ (by decide)]
  · show (((s.store16 v i s.store16Value).fetch16 v i).signExtend 32).toInt = _
    rw [State.fetch16_store16 hW hq, State.store16Value, toInt_signExtend_low _ (by decide)]
  all_goals exact congrArg BitVec.toInt (State.fetch32_store32 hW hq s.wdata)

/-- Settles O25: the byte GETBOOL reads has WDATA[0] at bit b and its old bits elsewhere. -/
theorem getBoolAfterSetBool : Obligations.GetBoolAfterSetBool := by
  unfold Obligations.GetBoolAfterSetBool
  intro s v b c i hb hc hq
  refine ⟨_, _, rfl, rfl, (toNat_setWidth_ofBool _).trans ?_⟩
  rw [fetch_of_setbool hq rfl, withBit_getLsbD _ _ hb hc]
  split
  · rw [State.boolValue, toNat_getLsbD, Nat.pow_zero, Nat.div_one]
  · exact toNat_getLsbD _ c

end Sys2Proof.Machine

/-! PROOFS. The field writers: what each stores, where, and what it leaves as it was (41_transcoder_set.md). -/

namespace Sys2Proof.Machine

/-! ## Storing a field byte by byte (R61, R72, R150) -/

/-- t is s after the bytes f 0 to f (n - 1) of the field at offset i were stored, in ascending order. -/
structure State.StoresBytes (s : State) (v : View) (i n : Nat) (f : Nat → Byte) (t : State) : Prop where
  only_mem : t = { s with mem := t.mem }
  last_wins : ∀ k < n, (∀ j, k < j → j < n → s.fieldIndex v i j ≠ s.fieldIndex v i k) →
    t.byteAt (s.fieldIndex v i k) = f k
  elsewhere : ∀ a, (∀ k < n, a ≠ s.fieldIndex v i k) → t.byteAt a = s.byteAt a

namespace State.StoresBytes

variable {s t : State} {v : View} {i n : Nat} {f : Nat → Byte}

theorem zero (s : State) (v : View) (i : Nat) (f : Nat → Byte) : s.StoresBytes v i 0 f s where
  only_mem := rfl
  last_wins := fun _ hk => absurd hk (Nat.not_lt_zero _)
  elsewhere := fun _ _ => rfl

theorem fieldIndex_eq (h : s.StoresBytes v i n f t) (k : Nat) : t.fieldIndex v i k = s.fieldIndex v i k := by
  rw [h.only_mem]
  cases v <;> rfl

theorem store (h : s.StoresBytes v i n f t) {b : Byte} (hb : b = f n) :
    s.StoresBytes v i (n + 1) f (t.store v i n b) where
  only_mem := by
    rw [store_eq, h.only_mem]
  last_wins k hk hlast := by
    rw [byteAt_store, h.fieldIndex_eq]
    obtain hkn | rfl := Nat.lt_succ_iff_lt_or_eq.1 hk
    · rw [if_neg (hlast n hkn n.lt_succ_self).symm]
      exact h.last_wins k hkn fun j hkj hjn => hlast j hkj (Nat.lt_succ_of_lt hjn)
    · rw [if_pos rfl, hb]
  elsewhere a ha := by
    rw [byteAt_store, h.fieldIndex_eq, if_neg (ha n n.lt_succ_self)]
    exact h.elsewhere a fun k hk => ha k (Nat.lt_succ_of_lt hk)

end State.StoresBytes

/-! ## The three widths (R104, R151 to R157) -/

namespace State

/-- Byte k of the low W bytes of WDATA, most significant first (R104). -/
def wdataByte (s : State) (W k : Nat) : Byte := s.wdata.extractLsb' (8 * (W - 1 - k)) 8

theorem toNat_wdataByte (s : State) (W k : Nat) :
    (s.wdataByte W k).toNat = s.wdata.toNat / 256 ^ (W - 1 - k) % 256 := by
  rw [wdataByte, BitVec.extractLsb'_toNat, Nat.shiftRight_eq_div_pow, Nat.pow_mul]

theorem store8_storesBytes (s : State) (v : View) (i : Nat) :
    s.StoresBytes v i 1 (s.wdataByte 1) (s.store8 v i s.store8Value) :=
  (StoresBytes.zero s v i _).store rfl

theorem store16_storesBytes (s : State) (v : View) (i : Nat) :
    s.StoresBytes v i 2 (s.wdataByte 2) (s.store16 v i s.store16Value) :=
  ((StoresBytes.zero s v i _).store (BitVec.extractLsb'_extractLsb'_of_le (by decide))).store
    (BitVec.extractLsb'_extractLsb'_of_le (by decide))

theorem store32_storesBytes (s : State) (v : View) (i : Nat) :
    s.StoresBytes v i 4 (s.wdataByte 4) (s.store32 v i s.store32Value) :=
  ((((StoresBytes.zero s v i _).store rfl).store rfl).store rfl).store rfl

end State

/-- Settles O22: each writer of whole bytes stores WDATA's low bytes one after another. -/
theorem writersStoreBigEndian : Obligations.WritersStoreBigEndian := by
  unfold Obligations.WritersStoreBigEndian
  intro s v i c W hmem
  obtain ⟨t, hexec, hstored⟩ : ∃ t, exec c s = .next t ∧ s.StoresBytes v i W (s.wdataByte W) t := by
    simp only [List.mem_cons, Prod.mk.injEq, List.not_mem_nil, or_false] at hmem
    obtain ⟨rfl, rfl⟩ | ⟨rfl, rfl⟩ | ⟨rfl, rfl⟩ | ⟨rfl, rfl⟩ | ⟨rfl, rfl⟩ | ⟨rfl, rfl⟩ | ⟨rfl, rfl⟩ := hmem
    case inl | inr.inl => exact ⟨_, rfl, s.store8_storesBytes v i⟩
    case inr.inr.inl | inr.inr.inr.inl => exact ⟨_, rfl, s.store16_storesBytes v i⟩
    all_goals exact ⟨_, rfl, s.store32_storesBytes v i⟩
  exact ⟨t, hexec, hstored.only_mem,
    fun k hk hlast => (congrArg BitVec.toNat (hstored.last_wins k hk hlast)).trans (s.toNat_wdataByte W k),
    hstored.elsewhere⟩

/-! ## SETBOOL (R158, R159) -/

theorem withBit_withBit (x : Byte) {b : Nat} (hb : b < 8) (on on' : Bool) :
    withBit (withBit x b on) b on' = withBit x b on' := by
  refine BitVec.eq_of_getLsbD_eq fun n hn => ?_
  simp only [withBit_getLsbD _ _ hb hn]
  split <;> rfl

theorem withBit_eq_self_iff {x : Byte} {b : Nat} (hb : b < 8) {on : Bool} :
    withBit x b on = x ↔ x.getLsbD b = on := by
  constructor
  · intro h
    rw [← h, withBit_getLsbD _ _ hb hb, if_pos rfl]
  · rintro rfl
    refine BitVec.eq_of_getLsbD_eq fun n hn => ?_
    rw [withBit_getLsbD _ _ hb hn]
    split
    · next h => rw [h]
    · rfl

section

variable {s t : State} {v : View} {b i : Nat}

theorem byteAt_of_setbool (h : exec (.setbool v b i) s = .next t) :
    t.byteAt (s.fieldIndex v i 0) = withBit (s.fetch v i 0) b s.boolValue := by
  cases h
  exact (State.byteAt_store ..).trans (if_pos rfl)

/-- Where the addressed byte is queued, the byte SETBOOL reads is the stored one (R62). -/
theorem byteAt_of_setbool_queued (hq : s.inQueue (s.fieldIndex v i 0) = true)
    (h : exec (.setbool v b i) s = .next t) :
    t.byteAt (s.fieldIndex v i 0) = withBit (s.byteAt (s.fieldIndex v i 0)) b s.boolValue := by
  rw [byteAt_of_setbool h, State.fetch_inside hq]

theorem byteAt_of_setbool_ne (h : exec (.setbool v b i) s = .next t) {a : Nat} (ha : a ≠ s.fieldIndex v i 0) :
    t.byteAt a = s.byteAt a := by
  cases h
  exact (State.byteAt_store ..).trans (if_neg ha)

/-- SETBOOL moves neither the field nor the queue, so a second one addresses the same byte. -/
theorem setbool_fieldIndex_inQueue (h : exec (.setbool v b i) s = .next t) :
    t.fieldIndex v i 0 = s.fieldIndex v i 0 ∧ ∀ a, t.inQueue a = s.inQueue a := by
  cases h
  simp

end

/-- Settles O23: the addressed byte is the byte read with bit b replaced. -/
theorem setBoolWritesOneBit : Obligations.SetBoolWritesOneBit := by
  unfold Obligations.SetBoolWritesOneBit
  intro s v b i hb
  refine ⟨_, rfl, rfl, fun n hn => ?_, fun a ha => byteAt_of_setbool_ne rfl ha⟩
  exact (congrArg (·.getLsbD n) (byteAt_of_setbool rfl)).trans (withBit_getLsbD _ _ hb hn)

/-! ## The laws of the writers (R160) -/

section

variable {s t u : State} {v : View} {b i : Nat}

theorem setbool_keeps_other_bits (hb : b < 8) (hq : s.inQueue (s.fieldIndex v i 0) = true)
    (h : exec (.setbool v b i) s = .next t) (a : Nat) {n : Nat} (hn : n < 8) (hnb : n ≠ b) :
    (t.byteAt a).getLsbD n = (s.byteAt a).getLsbD n := by
  by_cases ha : a = s.fieldIndex v i 0
  · rw [ha, byteAt_of_setbool_queued hq h, withBit_getLsbD _ _ hb hn, if_neg hnb]
  · rw [byteAt_of_setbool_ne h ha]

theorem setbool_of_same_bit (hb : b < 8) (hq : s.inQueue (s.fieldIndex v i 0) = true)
    (h : exec (.setbool v b i) s = .next t)
    (hbit : s.boolValue = (s.byteAt (s.fieldIndex v i 0)).getLsbD b) (a : Nat) : t.byteAt a = s.byteAt a := by
  by_cases ha : a = s.fieldIndex v i 0
  · rw [ha, byteAt_of_setbool_queued hq h]
    exact (withBit_eq_self_iff hb).2 hbit.symm
  · exact byteAt_of_setbool_ne h ha

theorem setbool_true_then_false (hb : b < 8) (hq : s.inQueue (s.fieldIndex v i 0) = true)
    (ht : exec (.setbool v b i) (s.setWdata 1) = .next t) (hu : exec (.setbool v b i) (t.setWdata 0) = .next u) :
    u.byteAt (s.fieldIndex v i 0) = withBit (s.byteAt (s.fieldIndex v i 0)) b false := by
  obtain ⟨hindex, hqueue⟩ := setbool_fieldIndex_inQueue ht
  have h1 : t.byteAt (s.fieldIndex v i 0) = withBit (s.byteAt (s.fieldIndex v i 0)) b true := by
    simpa [State.boolValue] using byteAt_of_setbool_queued (by simpa using hq) ht
  have h2 : u.byteAt (s.fieldIndex v i 0) = withBit (t.byteAt (s.fieldIndex v i 0)) b false := by
    simpa [hindex, State.boolValue] using byteAt_of_setbool_queued (by simpa [hindex, hqueue] using hq) hu
  rw [h2, h1, withBit_withBit _ hb]

end

theorem exec_unsigned_eq_signed {c d : Instr} {v : View} {i : Nat}
    (h : (c, d) ∈ [(Instr.setu8 v i, Instr.seti8 v i), (.setu16 v i, .seti16 v i), (.setu32 v i, .seti32 v i)])
    (s : State) : exec c s = exec d s := by
  simp only [List.mem_cons, Prod.mk.injEq, List.not_mem_nil, or_false] at h
  obtain ⟨rfl, rfl⟩ | ⟨rfl, rfl⟩ | ⟨rfl, rfl⟩ := h <;> rfl

/-- Settles O26, law by law. -/
theorem writersLaws : Obligations.WritersLaws := by
  unfold Obligations.WritersLaws
  intro s v b i hb hq
  refine ⟨fun t h a n => setbool_keeps_other_bits hb hq h a, fun t u ht hu => ?_,
    fun t h hbit => setbool_of_same_bit hb hq h hbit, fun c d hmem t u hc hd a => ?_⟩
  · have hcleared := setbool_true_then_false hb hq ht hu
    exact ⟨hcleared, (Eq.congr_left hcleared).trans (withBit_eq_self_iff hb)⟩
  · rw [exec_unsigned_eq_signed hmem, hd] at hc
    cases hc
    rfl

end Sys2Proof.Machine

/-! PROOFS. WRAP, and the CRC over a range of whole words (42_wrap_crc.md). -/

namespace Sys2Proof.Machine

/-- Settles O27: the remainder is below CAP, so it fits RDATA unchanged. -/
theorem wrapReducesModCapacity : Obligations.WrapReducesModCapacity := by
  unfold Obligations.WrapReducesModCapacity
  intro s
  have hlt : s.wdata.toNat % s.cap < s.cap := Nat.mod_lt _ s.cap_pos
  have hrdata : (BitVec.ofNat 32 (s.wdata.toNat % s.cap)).toNat = s.wdata.toNat % s.cap :=
    (BitVec.toNat_ofNat _ _).trans (Nat.mod_eq_of_lt (by have := s.cap_le; omega))
  exact ⟨_, rfl, rfl, hrdata, hrdata.trans_lt hlt⟩

/-! ## The words of a CRC range (R181) -/

namespace State

theorem toNat_wordAt (s : State) (v : View) (l k : Nat) :
    (s.wordAt v l k).toNat = 16777216 * (s.memRead (s.phys v l) k).toNat
      + 65536 * (s.memRead (s.phys v (l + 1)) (k + 1)).toNat
      + 256 * (s.memRead (s.phys v (l + 2)) (k + 2)).toNat
      + (s.memRead (s.phys v (l + 3)) (k + 3)).toNat :=
  toNat_append32 _ _ _ _

theorem length_wordsAt (s : State) (v : View) (l n : Nat) : (s.wordsAt v l n).length = n := by
  simp [wordsAt]

theorem getElem?_wordsAt (s : State) (v : View) (l : Nat) {n j : Nat} (hj : j < n) :
    (s.wordsAt v l n)[j]? = some (s.wordAt v (l + 4 * j) (4 * j)) := by
  simp [wordsAt, hj]

/-- Two ranges of n words that read the same bytes hold the same words, wherever they lie (R183). -/
theorem wordsAt_eq_of_memRead_eq {s s' : State} {v v' : View} {l l' n : Nat}
    (h : ∀ k < 4 * n, s.memRead (s.phys v (l + k)) k = s'.memRead (s'.phys v' (l' + k)) k) :
    s.wordsAt v l n = s'.wordsAt v' l' n := by
  refine List.map_congr_left fun j hj => ?_
  have hj : j < n := List.mem_range.1 hj
  simp only [wordAt, Nat.add_assoc]
  rw [h (4 * j) (by omega), h (4 * j + 1) (by omega), h (4 * j + 2) (by omega), h (4 * j + 3) (by omega)]

end State

section

variable {s t : State} {v : View} {e : Nat} (hle : s.p.toNat ≤ e) (hwhole : (e - s.p.toNat) % 4 = 0)
include hle hwhole

/-- CRC over a range of whole words completes: it writes RDATA and counts one access for each byte (R181). -/
theorem exec_crc_of_whole_words :
    exec (.crc v e) s = .next ((s.setRdata ((crcRun s.params.crc
      (s.wordsAt v s.p.toNat ((e - s.p.toNat) / 4))).setWidth 32)).useDraws (e - s.p.toNat)) :=
  execCrc_ok (crcRangeBad_false hle hwhole)

theorem rdata_of_crc (h : exec (.crc v e) s = .next t) :
    t.rdata = (crcRun s.params.crc (s.wordsAt v s.p.toNat ((e - s.p.toNat) / 4))).setWidth 32 := by
  rw [exec_crc_of_whole_words hle hwhole] at h
  cases h
  rfl

end

/-- Settles O28: the words are those of the range, and the 16-bit result is zero-extended. -/
theorem crcOverWholeWords : Obligations.CrcOverWholeWords := by
  unfold Obligations.CrcOverWholeWords
  intro s v e hle hwhole
  refine ⟨_, s.wordsAt v s.p.toNat ((e - s.p.toNat) / 4), exec_crc_of_whole_words hle hwhole, ?_, fun j hj => ?_,
    BitVec.toNat_setWidth_of_le (by decide), rfl, fun _ => rfl⟩
  · rw [State.length_wordsAt]
    omega
  · rw [State.length_wordsAt] at hj
    exact ⟨_, s.getElem?_wordsAt v _ hj, s.toNat_wordAt v _ _⟩

/-- Settles O30: RDATA is a function of the engine and the words, and the words are one of the bytes. -/
theorem crcDependsOnlyOnTheBytes : Obligations.CrcDependsOnlyOnTheBytes := by
  unfold Obligations.CrcDependsOnlyOnTheBytes
  intro s s' t t' v v' e e' hle hle' hlen hwhole hcollab hbytes ht ht'
  have hwords : s.wordsAt v s.p.toNat ((e - s.p.toNat) / 4) = s'.wordsAt v' s'.p.toNat ((e - s.p.toNat) / 4) :=
    State.wordsAt_eq_of_memRead_eq fun k hk => hbytes k (by omega)
  have hparams : s'.params = s.params := congrArg Collaborators.params hcollab
  rw [rdata_of_crc hle hwhole ht, rdata_of_crc hle' (hlen ▸ hwhole) ht', ← hlen, hwords, hparams]

end Sys2Proof.Machine

/-! PROOFS. The frame receiver (43_receiver.md). -/

/-! ## What a receive command does in each case (R206 to R208) -/

namespace Sys2Proof.Machine

section

variable {s : State} {budget : Nat} {loop : Nat → State → State}

theorem State.windowBeyond_eq_false (hw : s.wlen ≤ s.qcount) : s.windowBeyond = false :=
  decide_eq_false (Nat.not_lt.2 hw)

theorem receive_of_ready (hr : s.phase = .ready) : receive budget loop s = .next (s.rxReport true .ready) := by
  rw [receive, if_pos hr]

theorem receive_of_no_budget (hr : s.phase ≠ .ready) (hw : s.wlen ≤ s.qcount) (hb : budget = 0) :
    receive budget loop s = .next (s.rxReport false .nodata) := by
  simp only [receive, hr, State.windowBeyond_eq_false hw, hb, Bool.false_eq_true, if_false, if_true]

theorem receive_of_budget (hr : s.phase ≠ .ready) (hw : s.wlen ≤ s.qcount) (hb : budget ≠ 0) :
    receive budget loop s = .next (loop budget s) := by
  simp only [receive, hr, State.windowBeyond_eq_false hw, hb, Bool.false_eq_true, if_false]

end

/-- Settles O31: a held frame is reported before anything else is looked at. -/
theorem heldFrameIsReportedAgain : Obligations.HeldFrameIsReportedAgain := by
  unfold Obligations.HeldFrameIsReportedAgain
  exact fun s n hr => ⟨receive_of_ready hr, receive_of_ready hr⟩

/-- Settles O32: the budget is 0. -/
theorem noNewByteIsNodata : Obligations.NoNewByteIsNodata := by
  unfold Obligations.NoNewByteIsNodata
  refine fun s n hr hw => ⟨fun h => ?_, fun h => ?_⟩
  · have hb : min n s.fresh = 0 := by rw [State.fresh]; omega
    exact receive_of_no_budget hr hw hb
  · have hb : s.fresh = 0 := by rw [State.fresh]; omega
    exact receive_of_no_budget hr hw hb

/-- Settles O40: RXDONE's updates, one after another, are the record update the statement writes out. -/
theorem rxdoneDrainsTheWindow : Obligations.RxdoneDrainsTheWindow := by
  unfold Obligations.RxdoneDrainsTheWindow
  intro s hw
  show execRxDone s = _
  rw [execRxDone, State.windowBeyond_eq_false hw]
  rfl

/-- Settles O33: the loop runs on a budget that is not 0 and ends in one of its ways. -/
theorem rxincEndsInOneOfThreeWays : Obligations.RxincEndsInOneOfThreeWays := by
  unfold Obligations.RxincEndsInOneOfThreeWays
  intro s n hr hn hw
  have hb : min n s.fresh ≠ 0 := by rw [State.fresh]; omega
  refine ⟨_, receive_of_budget hr (Nat.le_of_lt hw) hb, ?_⟩
  obtain ⟨hp, hlen, hok, hc⟩ | ⟨⟨hp, hlen⟩ | ⟨hp, hlen⟩, hok, hc⟩ := rxincLoop_ends _ s (.inl hb)
  · exact .inl ⟨hp, hok, hc, hlen⟩
  · exact .inr (.inr ⟨hp, hok, hc, hlen⟩)
  · exact .inr (.inl ⟨hp, hok, hc, hlen⟩)

/-- RXALL grows the window by at least one byte and within its budget, which it uses up where it ends
INCOMPLETE (R207, R209). -/
theorem rxallLoop_wlen (b : Nat) (s : State) :
    s.wlen + min 1 b ≤ (rxallLoop b s).wlen ∧ (rxallLoop b s).wlen ≤ s.wlen + b ∧
      ((rxallLoop b s).rxcode = .incomplete → (rxallLoop b s).wlen = s.wlen + b) := by
  induction b generalizing s with
  | zero => exact ⟨Nat.le_refl _, Nat.le_refl _, fun _ => rfl⟩
  | succ b ih =>
    simp only [rxallLoop]
    split
    · split
      · exact ⟨by simp, by simp, nofun⟩
      · obtain ⟨hlow, hup, hfull⟩ := ih (s.grow.readWin.setPhase .accumulating).readWin
        simp only [State.readWin_wlen, State.setPhase_wlen, State.grow_wlen] at hlow hup hfull
        exact ⟨by omega, by omega, fun hc => by rw [hfull hc]; omega⟩
    · exact ⟨by simp, by simp, nofun⟩

/-- Settles O34: the loop's ways to end, with the window grown by a byte at least, so that it is not empty. -/
theorem rxallEndsInOneOfThreeWays : Obligations.RxallEndsInOneOfThreeWays := by
  unfold Obligations.RxallEndsInOneOfThreeWays
  intro s hr hw
  have hfresh : s.fresh = s.qcount - s.wlen := rfl
  have hb : s.fresh ≠ 0 := by omega
  obtain ⟨hlow, hup, hfull⟩ := rxallLoop_wlen s.fresh s
  refine ⟨_, receive_of_budget hr (Nat.le_of_lt hw) hb, by omega, by omega, ?_⟩
  obtain ⟨hp, -, hok, hc⟩ | ⟨⟨-, hlen⟩ | ⟨hp, -⟩, hok, hc⟩ | ⟨hp, hok, hc⟩ := rxallLoop_ends _ s (.inl hb)
  · exact .inr (.inl ⟨hp, hok, hc⟩)
  · omega
  · exact .inr (.inr ⟨hp, hok, hc, by rw [hfull hc]; omega⟩)
  · exact .inl ⟨hp, hok, hc⟩

theorem State.SameOutsideReceiver.byteAt_eq {s t : State} (h : s.SameOutsideReceiver t) (a : Nat) :
    t.byteAt a = s.byteAt a := by
  rw [h]
  rfl

theorem State.SameOutsideReceiver.params_eq {s t : State} (h : s.SameOutsideReceiver t) : t.params = s.params := by
  rw [h]
  rfl

/-- Settles O35, from what the parts of the two loops keep. -/
theorem receiveFrame : Obligations.ReceiveFrame := by
  unfold Obligations.ReceiveFrame
  refine fun s t => ⟨fun n h => ?_, fun h => ?_⟩
  · have hs := (sameOutsideReceiver_closed s).receive h rfl
    exact ⟨hs, hs.byteAt_eq⟩
  · have hs := (sameOutsideReceiver_closed s).toRxallClosed.receive h rfl
    obtain ⟨hstart, hhead, hcount⟩ := (sameQueue_closed s).receive h ⟨rfl, rfl, rfl⟩
    refine ⟨?_, hs.byteAt_eq⟩
    rw [State.SameOutsideReceiver, hstart, hhead, hcount] at hs
    exact hs

end Sys2Proof.Machine

/-! ## A window that starts at the queue's head (R32, R46 I3) -/

namespace Sys2Proof.Machine

/-- The window is the first W_LEN bytes of the queue: what the invariant and the boot give, and what stays true
inside a receive command. -/
structure State.Aligned (s : State) : Prop where
  booted : s.Booted
  qhead_lt : s.qhead < s.cap
  qcount_le : s.qcount ≤ s.cap
  wlen_le : s.wlen ≤ s.qcount

theorem State.Inv.aligned {s : State} (h : s.Inv) (hb : s.Booted) : s.Aligned :=
  ⟨hb, h.qhead_lt, h.qcount_le, h.wlen_le⟩

theorem RxincClosed.scan {P : State → Prop} (hP : RxincClosed P) (n : Nat) {s : State} (hs : P s) : P (scan n s).2 :=
  scan_preserves P hP.read hP.phase hP.skip n s hs

theorem aligned_closed : RxincClosed State.Aligned where
  read _ h := { h with }
  phase _ _ h := { h with }
  report _ _ _ h := { h with }
  grow _ h hq := { h with wlen_le := hq }
  skip s h _ :=
    { booted := congrArg (fun a => (a + 1) % s.cap) h.booted
      qhead_lt := Nat.mod_lt _ s.cap_pos
      qcount_le := Nat.le_trans (Nat.sub_le _ _) h.qcount_le
      wlen_le := Nat.sub_le_sub_right h.wlen_le 1 }

namespace State

theorem length_queued (s : State) : s.queued.length = s.qcount := by simp [queued]

theorem queued_congr {s t : State} (hh : t.qhead = s.qhead) (hc : t.qcount = s.qcount) (hm : t.mem = s.mem)
    (hcap : t.cap = s.cap) (hf : t.source = s.source) : t.queued = s.queued := by
  simp only [queued, byteAt, hh, hc, hm, hcap, hf]

theorem Aligned.win_eq_take {s : State} (h : s.Aligned) : s.win = s.queued.take s.wlen := by
  rw [win_eq_winBytes h.booted h.qhead_lt h.qcount_le h.wlen_le, winBytes, queued, ← List.map_take, List.take_range,
    Nat.min_eq_left h.wlen_le]
  simp only [h.booted.phys_window]

/-- s after readings of the window, which take free bytes, and with PHASE written: what a pass of a receive
command's loop does between a grow and a skip. -/
def reread (d : Nat) (f : Phase) (s : State) : State := { s with draws := d, phase := f }

theorem readWin_setPhase_eq_reread (s : State) (f : Phase) :
    s.readWin.setPhase f = s.reread (s.draws + s.wlen) f := rfl

theorem reread_readWin (d : Nat) (f : Phase) (s : State) : (s.reread d f).readWin = s.reread (d + s.wlen) f := rfl

theorem reread_setPhase (d : Nat) (f g : Phase) (s : State) : (s.reread d f).setPhase g = s.reread d g := rfl

theorem skip_setPhase (s : State) (f : Phase) : s.skip.setPhase f = (s.setPhase f).skip := rfl

theorem Aligned.reread {s : State} (h : s.Aligned) (d : Nat) (f : Phase) : (s.reread d f).Aligned := { h with }

theorem Aligned.win_reread {s : State} (h : s.Aligned) (d : Nat) (f : Phase) : (s.reread d f).win = s.win := by
  rw [(h.reread d f).win_eq_take, h.win_eq_take]
  rfl

end State

end Sys2Proof.Machine

/-! ## The verdict on a window (R206) -/

namespace Sys2Proof

/-- The candidate is given up: a sync failure or an integrity failure. -/
def Params.Rejects (P : Params) (w : List Byte) : Prop :=
  P.predStart w = false ∨ (P.predStart w = true ∧ P.predLen w = true ∧ P.predCrc w = false)

/-- More bytes are needed. -/
def Params.Awaits (P : Params) (w : List Byte) : Prop := P.predStart w = true ∧ P.predLen w = false

/-- The frame is accepted. -/
def Params.Accepts (P : Params) (w : List Byte) : Prop :=
  P.predStart w = true ∧ P.predLen w = true ∧ P.predCrc w = true

end Sys2Proof

namespace Sys2Proof.Machine

/-- One pass of a scan: every evaluation of a predicate reads the window again, W_LEN accesses (R71, log 13). -/
theorem scan_succ (n : Nat) {u : State} (h0 : u.wlen ≠ 0) :
    scan (n + 1) u =
      if u.params.predStart u.win then
        if u.params.predLen (u.reread (u.draws + u.wlen) .accumulating).win then
          if u.params.predCrc (u.reread (u.draws + u.wlen + u.wlen) .validating).win then
            (.accepted, u.reread (u.draws + u.wlen + u.wlen + u.wlen) .ready)
          else scan n (u.reread (u.draws + u.wlen + u.wlen + u.wlen) .searching).skip
        else (.needMore, u.reread (u.draws + u.wlen + u.wlen) .accumulating)
      else scan n (u.reread (u.draws + u.wlen) .searching).skip := by
  rw [scan, if_neg h0]
  simp only [State.readWin_setPhase_eq_reread, State.reread_readWin, State.reread_setPhase, State.skip_setPhase]
  rfl

/-- One pass of a scan skips a byte and goes on, or it ends. The verdicts are about `Win()` where the window holds no
free byte, so that every evaluation reads the same bytes. -/
theorem scan_succ_cases (n : Nat) {u : State} (h0 : u.wlen ≠ 0) :
    ∃ d, ((u.Aligned → u.params.Rejects u.win) ∧ scan (n + 1) u = scan n (u.reread d .searching).skip) ∨
      ((u.Aligned → u.params.Awaits u.win) ∧ scan (n + 1) u = (.needMore, u.reread d .accumulating)) ∨
      ((u.Aligned → u.params.Accepts u.win) ∧ scan (n + 1) u = (.accepted, u.reread d .ready)) := by
  rw [scan_succ n h0]
  by_cases hstart : u.params.predStart u.win = true
  case neg =>
    rw [if_neg hstart]
    exact ⟨_, .inl ⟨fun _ => .inl (Bool.eq_false_iff.2 hstart), rfl⟩⟩
  rw [if_pos hstart]
  by_cases hlen : u.params.predLen (u.reread (u.draws + u.wlen) .accumulating).win = true
  case neg =>
    rw [if_neg hlen]
    exact ⟨_, .inr (.inl ⟨fun ha => ⟨hstart, Bool.eq_false_iff.2 (ha.win_reread _ _ ▸ hlen)⟩, rfl⟩)⟩
  rw [if_pos hlen]
  by_cases hcrc : u.params.predCrc (u.reread (u.draws + u.wlen + u.wlen) .validating).win = true
  case neg =>
    rw [if_neg hcrc]
    exact ⟨_, .inl ⟨fun ha => .inr ⟨hstart, ha.win_reread _ _ ▸ hlen, Bool.eq_false_iff.2 (ha.win_reread _ _ ▸ hcrc)⟩,
      rfl⟩⟩
  rw [if_pos hcrc]
  exact ⟨_, .inr (.inr ⟨fun ha => ⟨hstart, ha.win_reread _ _ ▸ hlen, ha.win_reread _ _ ▸ hcrc⟩, rfl⟩)⟩

/-! ## RXINC by rounds (R206) -/

/-- One round of RXINC: a grow and the scan of the window. -/
def State.round (u : State) : State := (scan (u.wlen + 1) u.grow).2

/-- The round that ends in READY is the last. -/
theorem rxincLoop_succ (b : Nat) (u : State) :
    rxincLoop (b + 1) u =
      if u.round.phase = .ready then u.round.rxReport true .ready else rxincLoop b u.round := by
  have hends := scan_ends (u.wlen + 1) u.grow (Nat.le_refl _)
  rcases hscan : scan (u.wlen + 1) u.grow with ⟨e, t⟩
  have hround : u.round = t := congrArg Prod.snd hscan
  rw [hscan] at hends
  rw [rxincLoop, hscan, hround]
  obtain ⟨rfl, -, hp, -⟩ | ⟨rfl, -, hp⟩ | ⟨rfl, -, hp⟩ := hends
  · have hp' : t.phase = .searching := hp (Nat.succ_ne_zero _)
    rw [if_neg (by rw [hp']; nofun)]
  · rw [if_neg (by rw [hp]; nofun)]
  · rw [if_pos hp]

theorem State.round_balance {u : State} (h : u.wlen < u.qcount) :
    u.round.wlen ≤ u.round.qcount ∧ u.round.qcount + (u.wlen + 1) = u.qcount + u.round.wlen :=
  scan_balance (u.wlen + 1) u.grow h

end Sys2Proof.Machine

/-! ## What RXINC has done after g grown bytes (R203, R205, R210) -/

namespace Sys2Proof.Machine

/-- P g holds after g bytes grown, kept by every part of an RXINC; a skip comes after a candidate that failed. -/
structure RxincTracks (P : Nat → State → Prop) : Prop where
  reread : ∀ {g u} d f, P g u → P g (u.reread d f)
  report : ∀ {g u} ok c, P g u → P g (u.rxReport ok c)
  grow : ∀ {g u}, P g u → u.wlen < u.qcount → P (g + 1) u.grow
  skip : ∀ {g u}, P g u → u.wlen ≠ 0 → (u.Aligned → u.params.Rejects u.win) → P g u.skip

namespace RxincTracks

variable {P : Nat → State → Prop} (hP : RxincTracks P)
include hP

theorem scan (n : Nat) {g : Nat} {u : State} (hu : P g u) : P g (scan n u).2 := by
  induction n generalizing u with
  | zero => exact hu
  | succ n ih =>
    by_cases h0 : u.wlen = 0
    · rw [Machine.scan, if_pos h0]
      exact hu
    · obtain ⟨d, ⟨hrej, he⟩ | ⟨-, he⟩ | ⟨-, he⟩⟩ := scan_succ_cases n h0
      · rw [he]
        exact ih (hP.reread d .searching (hP.skip hu h0 hrej))
      · rw [he]
        exact hP.reread d _ hu
      · rw [he]
        exact hP.reread d _ hu

theorem rxincLoop (b : Nat) {g : Nat} {u : State} (hb : b + u.wlen ≤ u.qcount) (hu : P g u) :
    ∃ g' ≤ g + b, P g' (rxincLoop b u) := by
  induction b generalizing g u with
  | zero => exact ⟨g, Nat.le_refl _, hP.report _ _ hu⟩
  | succ b ih =>
    have hround : P (g + 1) u.round := hP.scan _ (hP.grow hu (by omega))
    have hbal := State.round_balance (u := u) (by omega)
    rw [rxincLoop_succ]
    split
    · exact ⟨g + 1, by omega, hP.report _ _ hround⟩
    · obtain ⟨g', hg', h⟩ := ih (by omega) hround
      exact ⟨g', by omega, h⟩

theorem receive {n : Nat} {s t : State} (h : receive (min n s.fresh) Machine.rxincLoop s = .next t) (hs : P 0 s) :
    ∃ g ≤ min n s.fresh, P g t := by
  obtain ⟨-, rfl⟩ | ⟨-, -, -, rfl⟩ | ⟨-, hw, -, rfl⟩ := receive_cases h
  · exact ⟨0, Nat.zero_le _, hP.report _ _ hs⟩
  · exact ⟨0, Nat.zero_le _, hP.report _ _ hs⟩
  · obtain ⟨g, hg, ht⟩ := hP.rxincLoop (min n s.fresh) (by rw [State.fresh]; omega) hs
    exact ⟨g, by omega, ht⟩

end RxincTracks

/-- t is s with g bytes grown and k skipped: every skip consumes one byte and advances W_START and q.HEAD by one. -/
structure State.Advanced (s : State) (g k : Nat) (t : State) : Prop where
  wlen : t.wlen + k = s.wlen + g
  qcount : t.qcount + k = s.qcount
  wstart : t.wstart = (s.wstart + k) % s.cap
  qhead : t.qhead = (s.qhead + k) % s.cap
  within : t.wlen ≤ t.qcount
  frame : s.SameOutsideReceiver t

namespace State.Advanced

variable {s u : State} {g k : Nat}

theorem zero (h : s.Inv) : s.Advanced 0 0 s where
  wlen := rfl
  qcount := rfl
  wstart := (Nat.mod_eq_of_lt h.wstart_lt).symm
  qhead := (Nat.mod_eq_of_lt h.qhead_lt).symm
  within := h.wlen_le
  frame := rfl

theorem cap_eq (h : s.Advanced g k u) : u.cap = s.cap := by
  rw [h.frame]
  rfl

theorem params_eq (h : s.Advanced g k u) : u.params = s.params := h.frame.params_eq

theorem reread (h : s.Advanced g k u) (d : Nat) (f : Phase) : s.Advanced g k (u.reread d f) :=
  { h with
    frame := by
      rw [SameOutsideReceiver, h.frame]
      rfl }

theorem report (h : s.Advanced g k u) (ok : Bool) (c : RxCode) : s.Advanced g k (u.rxReport ok c) :=
  { h with frame := (sameOutsideReceiver_closed s).report _ ok c h.frame }

theorem grow (h : s.Advanced g k u) (hq : u.wlen < u.qcount) : s.Advanced (g + 1) k u.grow where
  wlen := by
    have := h.wlen
    simp only [grow_wlen]
    omega
  qcount := h.qcount
  wstart := h.wstart
  qhead := h.qhead
  within := hq
  frame := (sameOutsideReceiver_closed s).grow _ h.frame hq

theorem skip (h : s.Advanced g k u) (h0 : u.wlen ≠ 0) : s.Advanced g (k + 1) u.skip where
  wlen := by
    have := h.wlen
    simp only [skip_wlen]
    omega
  qcount := by
    have := h.qcount
    have := h.within
    simp only [skip_qcount]
    omega
  wstart := by rw [skip_wstart, h.wstart, h.cap_eq, Nat.mod_add_mod, Nat.add_assoc]
  qhead := by rw [skip_qhead, h.qhead, h.cap_eq, Nat.mod_add_mod, Nat.add_assoc]
  within := Nat.sub_le_sub_right h.within 1
  frame := (sameOutsideReceiver_closed s).skip _ h.frame h0

theorem queued_eq (h : s.Advanced g k u) : u.queued = s.queued.drop k := by
  have hk : u.qcount = s.qcount - k := Nat.eq_sub_of_add_eq h.qcount
  rw [← queued_consume]
  refine queued_congr h.qhead hk ?_ h.cap_eq ?_ <;> rw [h.frame] <;> rfl

theorem aligned (h : s.Advanced g k u) (hs : s.Aligned) : u.Aligned where
  booted := by rw [Booted, h.wstart, h.qhead, hs.booted]
  qhead_lt := by
    rw [h.qhead, h.cap_eq]
    exact Nat.mod_lt _ s.cap_pos
  qcount_le := by
    have := h.qcount
    have := hs.qcount_le
    rw [h.cap_eq]
    omega
  wlen_le := h.within

theorem win_eq (h : s.Advanced g k u) (hs : s.Aligned) : u.win = (s.queued.drop k).take u.wlen := by
  rw [(h.aligned hs).win_eq_take, h.queued_eq]

end State.Advanced

/-- At some length within the first m bytes of the queue, the candidate that begins at byte j failed. -/
def State.RejectedWithin (s : State) (m j : Nat) : Prop :=
  ∃ l, 1 ≤ l ∧ j + l ≤ m ∧ s.params.Rejects ((s.queued.drop j).take l)

theorem State.RejectedWithin.mono {s : State} {m m' j : Nat} (h : s.RejectedWithin m j) (hm : m ≤ m') :
    s.RejectedWithin m' j := by
  obtain ⟨l, hl, hj, hrej⟩ := h
  exact ⟨l, hl, Nat.le_trans hj hm, hrej⟩

/-- An RXINC that has grown g bytes has skipped k, each the first of a candidate that failed. -/
def State.Examined (s : State) (g : Nat) (t : State) : Prop :=
  ∃ k, s.Advanced g k t ∧ (s.Aligned → ∀ j < k, s.RejectedWithin (s.wlen + g) j)

theorem examined_tracks (s : State) : RxincTracks s.Examined where
  reread d f := fun ⟨k, hadv, hrej⟩ => ⟨k, hadv.reread d f, hrej⟩
  report ok c := fun ⟨k, hadv, hrej⟩ => ⟨k, hadv.report ok c, hrej⟩
  grow := fun ⟨k, hadv, hrej⟩ hq => ⟨k, hadv.grow hq, fun hs j hj => (hrej hs j hj).mono (Nat.le_succ _)⟩
  skip := by
    rintro g u ⟨k, hadv, hrej⟩ h0 hfail
    refine ⟨k + 1, hadv.skip h0, fun hs j hj => ?_⟩
    obtain hlt | rfl := Nat.lt_succ_iff_lt_or_eq.1 hj
    · exact hrej hs j hlt
    · have hlast := hfail (hadv.aligned hs)
      rw [hadv.params_eq, hadv.win_eq hs] at hlast
      exact ⟨u.wlen, Nat.one_le_iff_ne_zero.2 h0, by have := hadv.wlen; omega, hlast⟩

theorem examined_of_rxinc {n : Nat} {s t : State} (h : s.Inv) (hx : exec (.rxinc n) s = .next t) :
    ∃ g ≤ min n s.fresh, s.Examined g t :=
  (examined_tracks s).receive hx ⟨0, .zero h, fun _ _ hj => absurd hj (Nat.not_lt_zero _)⟩

/-- Settles O36, from what every part of an RXINC does to window and queue. -/
theorem rxincMovesWindowAndQueueTogether : Obligations.RxincMovesWindowAndQueueTogether := by
  unfold Obligations.RxincMovesWindowAndQueueTogether
  intro s t n h hx
  obtain ⟨g, hg, k, hadv, -⟩ := examined_of_rxinc h hx
  exact ⟨g, k, hg, by have := hadv.wlen; omega, hadv.wlen, hadv.qcount, hadv.wstart, hadv.qhead⟩

/-- Settles O38: every skip came after a candidate that failed. -/
theorem rxincSkipsOnlyFailedCandidates : Obligations.RxincSkipsOnlyFailedCandidates := by
  unfold Obligations.RxincSkipsOnlyFailedCandidates
  intro s t n h hb hx j hj
  obtain ⟨g, hg, k, hadv, hrej⟩ := examined_of_rxinc h hx
  have hk : j < k := by have := hadv.qcount; omega
  exact (hrej (h.aligned hb) j hk).mono (Nat.add_le_add_left hg _)

/-! ## PHASE tells which checks the window passes (R35, R206) -/

/-- The window of a receiver in READY passes all three checks; in ACCUMULATING it passes the start check and is still
short. -/
def State.Checked (s : State) : Prop :=
  (s.phase = .ready → s.params.Accepts s.win) ∧ (s.phase = .accumulating → s.params.Awaits s.win)

theorem State.Checked.of_searching {s : State} (h : s.phase = .searching) : s.Checked :=
  ⟨fun hp => by simp [h] at hp, fun hp => by simp [h] at hp⟩

theorem scan_checked (n : Nat) {u : State} (ha : u.Aligned) (hu : (n ≠ 0 ∧ u.wlen ≠ 0) ∨ u.Checked) :
    (scan n u).2.Checked := by
  induction n generalizing u with
  | zero => exact hu.resolve_left fun h => h.1 rfl
  | succ n ih =>
    by_cases h0 : u.wlen = 0
    · rw [scan, if_pos h0]
      exact hu.resolve_left fun h => h.2 h0
    · obtain ⟨d, ⟨-, he⟩ | ⟨hwait, he⟩ | ⟨hacc, he⟩⟩ := scan_succ_cases n h0
      · rw [he]
        exact ih (aligned_closed.skip _ (ha.reread d _) h0) (.inr (.of_searching rfl))
      · rw [he]
        refine ⟨nofun, fun _ => ?_⟩
        rw [ha.win_reread]
        exact hwait ha
      · rw [he]
        refine ⟨fun _ => ?_, nofun⟩
        rw [ha.win_reread]
        exact hacc ha

theorem rxincLoop_checked (b : Nat) {u : State} (ha : u.Aligned) (hb : b + u.wlen ≤ u.qcount)
    (hu : b ≠ 0 ∨ u.Checked) : (rxincLoop b u).Checked := by
  induction b generalizing u with
  | zero => exact hu.resolve_left fun h => h rfl
  | succ b ih =>
    have hg : u.grow.Aligned := aligned_closed.grow u ha (by omega)
    have hchecked : u.round.Checked := scan_checked _ hg (.inl ⟨Nat.succ_ne_zero _, Nat.succ_ne_zero _⟩)
    have hround : u.round.Aligned := aligned_closed.scan _ hg
    have hbal := State.round_balance (u := u) (by omega)
    rw [rxincLoop_succ]
    split
    · exact hchecked
    · exact ih hround (by omega) (.inr hchecked)

/-- Settles O37: the loop leaves PHASE as its last scan set it. -/
theorem rxincAcceptsOnlyCheckedFrames : Obligations.RxincAcceptsOnlyCheckedFrames := by
  unfold Obligations.RxincAcceptsOnlyCheckedFrames
  intro s t n h hb hr hn hw hx
  have hfresh : s.fresh = s.qcount - s.wlen := rfl
  have hbudget : min n s.fresh ≠ 0 := by omega
  have hparams : t.params = s.params := ((sameOutsideReceiver_closed s).receive hx rfl).params_eq
  obtain ⟨hready, -⟩ | ⟨-, -, hzero, -⟩ | ⟨-, -, -, rfl⟩ := receive_cases hx
  · exact absurd hready hr
  · exact absurd hzero hbudget
  · rw [← hparams]
    exact rxincLoop_checked _ (h.aligned hb) (by omega) (.inl hbudget)

end Sys2Proof.Machine

/-! ## RXALL's checks (R207) -/

namespace Sys2Proof.Machine

/-- One round of RXALL on a window without free bytes, which every evaluation of a predicate reads alike. -/
theorem rxallLoop_succ (b : Nat) {u : State} (hg : u.grow.Aligned) :
    rxallLoop (b + 1) u =
      if u.params.predStart u.grow.win then
        if u.params.predLen u.grow.win then
          (u.grow.reread (u.draws + u.grow.wlen + u.grow.wlen) .ready).rxReport true .ready
        else rxallLoop b (u.grow.reread (u.draws + u.grow.wlen + u.grow.wlen) .accumulating)
      else (u.grow.reread (u.draws + u.grow.wlen) .searching).rxReport false .startFail := by
  rw [rxallLoop]
  simp only [State.readWin_setPhase_eq_reread, State.reread_readWin, State.reread_setPhase, hg.win_reread]
  rfl

/-- The round finds a bad start, or a frame, or a byte more to wait for. -/
theorem rxallLoop_succ_cases (b : Nat) {u : State} (hg : u.grow.Aligned) :
    ∃ d, (u.params.predStart u.grow.win = false ∧
        rxallLoop (b + 1) u = (u.grow.reread d .searching).rxReport false .startFail) ∨
      ((u.params.predStart u.grow.win = true ∧ u.params.predLen u.grow.win = true) ∧
        rxallLoop (b + 1) u = (u.grow.reread d .ready).rxReport true .ready) ∨
      (u.params.Awaits u.grow.win ∧ rxallLoop (b + 1) u = rxallLoop b (u.grow.reread d .accumulating)) := by
  rw [rxallLoop_succ b hg]
  by_cases hstart : u.params.predStart u.grow.win = true
  case neg =>
    rw [if_neg hstart]
    exact ⟨_, .inl ⟨Bool.eq_false_iff.2 hstart, rfl⟩⟩
  rw [if_pos hstart]
  by_cases hlen : u.params.predLen u.grow.win = true
  case neg =>
    rw [if_neg hlen]
    exact ⟨_, .inr (.inr ⟨⟨hstart, Bool.eq_false_iff.2 hlen⟩, rfl⟩)⟩
  rw [if_pos hlen]
  exact ⟨_, .inr (.inl ⟨⟨hstart, hlen⟩, rfl⟩)⟩

/-- What RXALL's report says of the window it leaves: the start check and the length check passed, the length check
failed, the start check failed. -/
def State.RxallChecked (s : State) : Prop :=
  (s.phase = .ready → s.params.predStart s.win = true ∧ s.params.predLen s.win = true) ∧
  (s.phase = .accumulating → s.params.Awaits s.win) ∧
  (s.rxcode = .startFail → s.params.predStart s.win = false)

/-- RXALL's report is about the window it leaves, and every shorter window it grew through was to wait for more. -/
theorem rxallLoop_checked (b : Nat) {u : State} (ha : u.Aligned) (hb : b + u.wlen ≤ u.qcount)
    (hu : b ≠ 0 ∨ (u.phase = .accumulating ∧ u.params.Awaits u.win)) :
    (rxallLoop b u).RxallChecked ∧
      ∀ l, u.wlen < l → l < (rxallLoop b u).wlen → u.params.Awaits (u.queued.take l) := by
  induction b generalizing u with
  | zero =>
    obtain ⟨hp, hwait⟩ := hu.resolve_left fun h => h rfl
    refine ⟨⟨fun hr => ?_, fun _ => hwait, nofun⟩, fun l hl hl' => absurd hl' (Nat.lt_asymm hl)⟩
    exact absurd (hp.symm.trans hr) nofun
  | succ b ih =>
    have hg : u.grow.Aligned := aligned_closed.grow u ha (by omega)
    have hwin : ∀ d f, (u.grow.reread d f).win = u.grow.win := hg.win_reread
    obtain ⟨d, ⟨hbad, he⟩ | ⟨hok, he⟩ | ⟨hwait, he⟩⟩ := rxallLoop_succ_cases b hg
    · rw [he]
      refine ⟨⟨nofun, nofun, fun _ => (hwin d .searching).symm ▸ hbad⟩, fun l hl hl' => ?_⟩
      exact absurd hl' (Nat.not_lt.2 hl)
    · rw [he]
      refine ⟨⟨fun _ => (hwin d .ready).symm ▸ hok, nofun, nofun⟩, fun l hl hl' => ?_⟩
      exact absurd hl' (Nat.not_lt.2 hl)
    · rw [he]
      obtain ⟨hrep, hshort⟩ := ih (hg.reread d .accumulating) (show b + (u.wlen + 1) ≤ u.qcount by omega)
        (.inr ⟨rfl, (hwin d .accumulating).symm ▸ hwait⟩)
      refine ⟨hrep, fun l hl hl' => ?_⟩
      obtain rfl | hlt := Nat.eq_or_lt_of_le (Nat.succ_le_of_lt hl)
      · rw [hg.win_eq_take] at hwait
        exact hwait
      · exact hshort l hlt hl'

/-- Settles O39: what the loop's rounds found, about the window it leaves. -/
theorem rxallAcceptsOnStartAndLength : Obligations.RxallAcceptsOnStartAndLength := by
  unfold Obligations.RxallAcceptsOnStartAndLength
  intro s t h hb hr hw hx
  have hfresh : s.fresh = s.qcount - s.wlen := rfl
  have hbudget : s.fresh ≠ 0 := by omega
  have hparams := ((sameOutsideReceiver_closed s).toRxallClosed.receive hx rfl).params_eq
  obtain ⟨hready, -⟩ | ⟨-, -, hzero, -⟩ | ⟨-, -, -, rfl⟩ := receive_cases hx
  · exact absurd hready hr
  · exact absurd hzero hbudget
  · obtain ⟨⟨hacc, hwait, hfail⟩, hshort⟩ := rxallLoop_checked s.fresh (h.aligned hb) (by omega) (.inl hbudget)
    rw [hparams] at hacc hwait hfail
    exact ⟨hacc, hwait, hfail, hshort⟩

end Sys2Proof.Machine

/-! ## Two RXINCs, and an RXINC and an append (R214, R66) -/

namespace Sys2Proof.Machine

/-- RXINC's budget can be used in two parts, unless the first accepts a frame. -/
theorem rxincLoop_add (b c : Nat) {u : State} (hr : u.phase ≠ .ready) :
    rxincLoop (b + c) u =
      if (rxincLoop b u).phase = .ready then rxincLoop b u else rxincLoop c (rxincLoop b u) := by
  induction b generalizing u with
  | zero =>
    have hr' : (rxincLoop 0 u).phase ≠ .ready := hr
    rw [if_neg hr', Nat.zero_add]
    exact (rxincLoop_rxReport c u _ _).symm
  | succ b ih =>
    rw [Nat.succ_add, rxincLoop_succ, rxincLoop_succ]
    by_cases hround : u.round.phase = .ready
    · have hr' : (u.round.rxReport true .ready).phase = .ready := hround
      rw [if_pos hround, if_pos hround, if_pos hr']
    · rw [if_neg hround, if_neg hround, ih hround]

/-- An RXINC that accepts no frame uses up its budget (R205). -/
theorem rxincLoop_fresh (b : Nat) {u : State} (hb : b ≤ u.fresh) (hr : (rxincLoop b u).phase ≠ .ready) :
    (rxincLoop b u).fresh = u.fresh - b := by
  induction b generalizing u with
  | zero => rfl
  | succ b ih =>
    have hfresh : u.fresh = u.qcount - u.wlen := rfl
    obtain ⟨hle, hbal⟩ := State.round_balance (u := u) (by omega)
    have hround : u.round.fresh = u.fresh - 1 := by
      rw [State.fresh, hfresh]
      omega
    rw [rxincLoop_succ] at hr ⊢
    by_cases hready : u.round.phase = .ready
    · rw [if_pos hready] at hr
      exact absurd hready hr
    · rw [if_neg hready] at hr ⊢
      rw [ih (by omega) hr]
      omega

/-- s without the outcome of its last receive command, which does not steer the next one. -/
def State.unreported (s : State) : State := s.rxReport false .none

theorem State.fields_eq_of_unreported_eq {s t : State} (h : s.unreported = t.unreported) :
    s.wstart = t.wstart ∧ s.wlen = t.wlen ∧ s.phase = t.phase ∧ s.qhead = t.qhead ∧ s.qcount = t.qcount ∧
      s.mem = t.mem ∧ s.win = t.win :=
  ⟨(congrArg wstart h :), (congrArg wlen h :), (congrArg phase h :), (congrArg qhead h :), (congrArg qcount h :),
    (congrArg mem h :), (congrArg win h :)⟩

/-- What RXINC n leaves, but for the outcome it reports. -/
def afterRxinc (n : Nat) (s : State) : State :=
  if s.phase = .ready then s.unreported else (rxincLoop (min n s.fresh) s).unreported

theorem unreported_of_rxinc {n : Nat} {s t : State} (h : exec (.rxinc n) s = .next t) :
    t.unreported = afterRxinc n s := by
  rw [afterRxinc]
  obtain ⟨hr, rfl⟩ | ⟨hr, -, hb, rfl⟩ | ⟨hr, -, -, rfl⟩ := receive_cases h
  · rw [if_pos hr]
    rfl
  · rw [if_neg hr, hb]
    rfl
  · rw [if_neg hr]

theorem afterRxinc_unreported (n : Nat) (s : State) : afterRxinc n s.unreported = afterRxinc n s := by
  have hloop : rxincLoop (min n s.fresh) s.unreported = rxincLoop (min n s.fresh) s := rxincLoop_rxReport _ _ _ _
  rw [afterRxinc, afterRxinc, ← hloop]
  rfl

/-- Bytes beyond the new ones are no budget (R205). -/
theorem afterRxinc_min (n : Nat) (s : State) : afterRxinc (min n s.fresh) s = afterRxinc n s := by
  rw [afterRxinc, afterRxinc, Nat.min_assoc, Nat.min_self]

theorem afterRxinc_add (n m : Nat) (s : State) : afterRxinc m (afterRxinc n s) = afterRxinc (n + m) s := by
  by_cases hr : s.phase = .ready
  · have hs : ∀ k, afterRxinc k s = s.unreported := fun k => if_pos hr
    rw [hs, hs, afterRxinc_unreported, hs]
  · have hs : ∀ k, afterRxinc k s = (rxincLoop (min k s.fresh) s).unreported := fun k => if_neg hr
    have hsum : min (n + m) s.fresh = min n s.fresh + min m (s.fresh - min n s.fresh) := by omega
    rw [hs, hs, afterRxinc_unreported, hsum, rxincLoop_add _ _ hr, afterRxinc]
    by_cases hfirst : (rxincLoop (min n s.fresh) s).phase = .ready
    · rw [if_pos hfirst, if_pos hfirst]
    · rw [if_neg hfirst, if_neg hfirst, rxincLoop_fresh _ (Nat.min_le_right _ _) hfirst]

/-- Settles O43: RXINC's budget can be used in two parts. -/
theorem rxincSplitsAcrossCalls : Obligations.RxincSplitsAcrossCalls := by
  unfold Obligations.RxincSplitsAcrossCalls
  intro s t1 t2 t n m h1 h2 h
  have hsame : t2.unreported = t.unreported := calc
    t2.unreported = afterRxinc m t1 := unreported_of_rxinc h2
    _ = afterRxinc m (afterRxinc n s) := by rw [← afterRxinc_unreported, unreported_of_rxinc h1]
    _ = afterRxinc (n + m) s := afterRxinc_add n m s
    _ = t.unreported := (unreported_of_rxinc h).symm
  obtain ⟨hstart, hlen, hphase, hhead, hcount, hmem, -⟩ := State.fields_eq_of_unreported_eq hsame
  exact ⟨hstart, hlen, hphase, hhead, hcount, hmem⟩

/-! ### An append changes no byte a scan reads -/

theorem State.Aligned.enqueue {u : State} (ha : u.Aligned) (hroom : u.qcount < u.cap) (x : Byte) :
    (u.enqueue x).Aligned :=
  { ha with
    qcount_le := hroom
    wlen_le := Nat.le_succ_of_le ha.wlen_le }

theorem State.Aligned.win_enqueue {u : State} (ha : u.Aligned) (hroom : u.qcount < u.cap) (x : Byte) :
    (u.enqueue x).win = u.win := by
  rw [(ha.enqueue hroom x).win_eq_take, ha.win_eq_take, State.queued_enqueue hroom, State.enqueue_wlen,
    List.take_append_of_le_length (by rw [State.length_queued]; exact ha.wlen_le)]

/-- A window at the queue's head, and room behind the queue for a byte more. -/
structure State.Roomy (s : State) : Prop extends s.Aligned where
  room : s.qcount < s.cap

theorem roomy_closed : RxincClosed State.Roomy where
  read s h := ⟨aligned_closed.read s h.toAligned, h.room⟩
  phase s f h := ⟨aligned_closed.phase s f h.toAligned, h.room⟩
  report s ok c h := ⟨aligned_closed.report s ok c h.toAligned, h.room⟩
  grow s h hq := ⟨aligned_closed.grow s h.toAligned hq, h.room⟩
  skip s h h0 := ⟨aligned_closed.skip s h.toAligned h0, Nat.lt_of_le_of_lt (Nat.sub_le _ _) h.room⟩

theorem scan_enqueue (n : Nat) {u : State} (hu : u.Roomy) (x : Byte) :
    scan n (u.enqueue x) = ((scan n u).1, (scan n u).2.enqueue x) := by
  induction n generalizing u with
  | zero => rfl
  | succ n ih =>
    by_cases h0 : u.wlen = 0
    · have h0' : (u.enqueue x).wlen = 0 := h0
      rw [scan, scan, if_pos h0, if_pos h0']
    · have hskip : ∀ d, scan n ((u.enqueue x).reread d .searching).skip =
          ((scan n (u.reread d .searching).skip).1, (scan n (u.reread d .searching).skip).2.enqueue x) := fun d => by
        have hq : (u.reread d .searching).qcount ≠ 0 := fun hq => h0 (Nat.eq_zero_of_le_zero (hq ▸ hu.wlen_le))
        rw [← ih (roomy_closed.skip _ ⟨hu.toAligned.reread d _, hu.room⟩ h0), ← State.skip_enqueue _ _ hq]
        rfl
      have hwin := hu.toAligned.win_enqueue hu.room x
      have halign := hu.toAligned.enqueue hu.room x
      rw [scan_succ n h0, scan_succ n (u := u.enqueue x) h0]
      simp only [halign.win_reread, hu.toAligned.win_reread, hwin, State.enqueue_params, State.enqueue_draws,
        State.enqueue_wlen, hskip]
      split
      · split
        · split <;> rfl
        · rfl
      · rfl

theorem round_enqueue {u : State} (hu : u.Roomy) (hq : u.wlen < u.qcount) (x : Byte) :
    (u.enqueue x).round = u.round.enqueue x :=
  congrArg Prod.snd (scan_enqueue (u.wlen + 1) (roomy_closed.grow u hu hq) x)

theorem rxincLoop_enqueue (b : Nat) {u : State} (hu : u.Roomy) (hb : b ≤ u.fresh) (x : Byte) :
    rxincLoop b (u.enqueue x) = (rxincLoop b u).enqueue x := by
  induction b generalizing u with
  | zero => rfl
  | succ b ih =>
    have hfresh : u.fresh = u.qcount - u.wlen := rfl
    have hq : u.wlen < u.qcount := by omega
    obtain ⟨hle, hbal⟩ := State.round_balance hq
    have hround : u.round.Roomy := roomy_closed.scan _ (roomy_closed.grow u hu hq)
    rw [rxincLoop_succ, rxincLoop_succ, round_enqueue hu hq, State.enqueue_phase,
      ih hround (by rw [State.fresh]; omega)]
    split <;> rfl

/-- The bytes of bs appended one after another. -/
def State.enqueueAll (bs : List Byte) (s : State) : State := bs.foldl (fun u b => u.enqueue b) s

theorem State.enqueueAll_eq (bs : List Byte) (s : State) :
    ∃ m, s.enqueueAll bs = { s with mem := m, qcount := s.qcount + bs.length } := by
  induction bs generalizing s with
  | nil => exact ⟨s.mem, rfl⟩
  | cons x bs ih =>
    obtain ⟨m, hm⟩ := ih (s.enqueue x)
    exact ⟨m, hm.trans (by simp only [State.enqueue, List.length_cons, Nat.add_assoc, Nat.add_comm 1])⟩

theorem enqueueAll_unreported (bs : List Byte) (s : State) :
    (s.enqueueAll bs).unreported = s.unreported.enqueueAll bs := by
  induction bs generalizing s with
  | nil => rfl
  | cons x bs ih => exact ih (s.enqueue x)

theorem rxincLoop_enqueueAll (b : Nat) (bs : List Byte) {u : State} (ha : u.Aligned)
    (hroom : u.qcount + bs.length ≤ u.cap) (hb : b ≤ u.fresh) :
    rxincLoop b (u.enqueueAll bs) = (rxincLoop b u).enqueueAll bs := by
  induction bs generalizing u with
  | nil => rfl
  | cons x bs ih =>
    rw [List.length_cons] at hroom
    have hroom' : u.qcount < u.cap := by omega
    have hfresh : (u.enqueue x).fresh = u.fresh + 1 := Nat.succ_sub ha.wlen_le
    have hrest : rxincLoop b ((u.enqueue x).enqueueAll bs) = (rxincLoop b (u.enqueue x)).enqueueAll bs :=
      ih (ha.enqueue hroom' x) (show u.qcount + 1 + bs.length ≤ u.cap by omega) (by omega)
    rw [rxincLoop_enqueue b ⟨ha, hroom'⟩ hb] at hrest
    exact hrest

theorem afterRxinc_enqueueAll {n : Nat} (bs : List Byte) {s : State} (ha : s.Aligned)
    (hroom : s.qcount + bs.length ≤ s.cap) (hn : n ≤ s.fresh) :
    afterRxinc n (s.enqueueAll bs) = (afterRxinc n s).enqueueAll bs := by
  obtain ⟨m, hm⟩ := s.enqueueAll_eq bs
  have hphase : (s.enqueueAll bs).phase = s.phase := by rw [hm]
  have hfresh : n ≤ (s.enqueueAll bs).fresh := by
    rw [hm]
    exact Nat.le_trans hn (Nat.sub_le_sub_right (Nat.le_add_right _ _) _)
  rw [afterRxinc, afterRxinc, hphase, Nat.min_eq_left hfresh, Nat.min_eq_left hn, rxincLoop_enqueueAll n bs ha hroom hn]
  split
  · exact enqueueAll_unreported bs s
  · exact enqueueAll_unreported bs _

/-- Settles O44: the first RXINC and the appends commute, and then its budget and the second's are one. -/
theorem rxincDoesNotDependOnArrival : Obligations.RxincDoesNotDependOnArrival := by
  unfold Obligations.RxincDoesNotDependOnArrival
  intro s t1 t2 t n m bs h hb hroom h1 h2 h3
  have h1' : t1.unreported = afterRxinc (min n s.fresh) s := (unreported_of_rxinc h1).trans (afterRxinc_min n s).symm
  have hsame : t2.unreported = t.unreported := calc
    t2.unreported = afterRxinc m (t1.enqueueAll bs) := unreported_of_rxinc h2
    _ = afterRxinc m ((afterRxinc (min n s.fresh) s).enqueueAll bs) := by
      rw [← afterRxinc_unreported, enqueueAll_unreported, h1']
    _ = afterRxinc m (afterRxinc (min n s.fresh) (s.enqueueAll bs)) := by
      rw [afterRxinc_enqueueAll bs (h.aligned hb) hroom (Nat.min_le_right _ _)]
    _ = afterRxinc (min n s.fresh + m) (s.enqueueAll bs) := afterRxinc_add _ m _
    _ = t.unreported := (unreported_of_rxinc h3).symm
  obtain ⟨hstart, hlen, hphase, hhead, hcount, -, hwin⟩ := State.fields_eq_of_unreported_eq hsame
  exact ⟨hstart, hlen, hphase, hhead, hcount, hwin⟩

end Sys2Proof.Machine

/-! ## A held frame (R212) -/

namespace Sys2Proof.Machine

namespace State

/-- t differs from s at most in what the Host writes and in what it holds itself (R40, R42). -/
def SameOutsideHost (s t : State) : Prop :=
  t = { s with
    p := t.p, wdata := t.wdata, xstart := t.xstart, busy := t.busy, pending := t.pending, err := t.err
    ecode := t.ecode, prog := t.prog, results := t.results, draws := t.draws }

theorem writeReg_sameOutsideHost (s : State) (r : PortReg) (v : Word) : s.SameOutsideHost (s.writeReg r v) := by
  cases r
  case status =>
    rw [writeReg_status]
    split <;> rfl
  all_goals rfl

theorem hostWrite_sameOutsideHost (s : State) (off : BitVec 6) (v : Word) :
    s.SameOutsideHost (s.hostWrite off v) := by
  unfold hostWrite
  split
  · rw [raise_eq]
    rfl
  · exact s.writeReg_sameOutsideHost _ v

theorem hostTurn_sameOutsideHost (s : State) : s.SameOutsideHost s.hostTurn := by
  obtain ⟨off, v, rest, -, ht⟩ | ⟨l, rs, d, ht⟩ := s.hostTurn_cases
  · have hw := s.hostWrite_sameOutsideHost off v
    rw [ht, SameOutsideHost, hw]
    rfl
  · rw [ht]
    rfl

/-- The receiver and the queue's head are as they were. -/
structure SameWindow (s t : State) : Prop where
  wstart : t.wstart = s.wstart
  wlen : t.wlen = s.wlen
  phase : t.phase = s.phase
  rxtime : t.rxtime = s.rxtime
  qhead : t.qhead = s.qhead

/-- The window and the whole queue are as they were, so that the frame reads as before. -/
structure SameFrame (s t : State) : Prop extends s.SameWindow t where
  qcount : t.qcount = s.qcount
  bytes : ∀ a, t.byteAt a = s.byteAt a

theorem SameOutsideHost.sameFrame {s t : State} (h : s.SameOutsideHost t) : s.SameFrame t := by
  rw [h]
  exact ⟨⟨rfl, rfl, rfl, rfl, rfl⟩, rfl, fun _ => rfl⟩

theorem raise_sameFrame (s : State) (c : ErrCode) : s.SameFrame (s.raise c) := by
  rw [raise_eq]
  exact ⟨⟨rfl, rfl, rfl, rfl, rfl⟩, rfl, fun _ => rfl⟩

end State

/-- In READY a command other than RXDONE leaves the frame as it is, or is a SET, which leaves window and queue. -/
theorem exec_of_ready {i : Instr} {s t : State} (hr : s.phase = .ready) (hi : i ≠ .rxdone)
    (h : exec i s = .next t) :
    s.SameFrame t ∨ (i.opcode.writesStorage = true ∧ s.SameWindow t ∧ t.qcount = s.qcount) := by
  have hreport : ∀ {b loop}, receive b loop s = .next t → s.SameFrame t := fun hx => by
    rw [receive_of_ready hr] at hx
    cases hx
    exact ⟨⟨rfl, rfl, rfl, rfl, rfl⟩, rfl, fun _ => rfl⟩
  obtain ⟨-, -, x, d, rfl⟩ | ⟨v, e, -, -, rfl⟩ | ⟨hset, m, d, rfl, -⟩ | ⟨n, -, hx⟩ | ⟨-, hx⟩ | ⟨hi', -⟩ := exec_cases h
  · exact .inl ⟨⟨rfl, rfl, rfl, rfl, rfl⟩, rfl, fun _ => rfl⟩
  · exact .inl (s.raise_sameFrame _)
  · exact .inr ⟨hset, ⟨rfl, rfl, rfl, rfl, rfl⟩, rfl⟩
  · exact .inl (hreport hx)
  · exact .inl (hreport hx)
  · exact absurd hi' hi

/-- From READY a step leaves the frame as it is, or appends a byte behind the queue, or runs a SET. -/
theorem step_of_ready {s t : State} (hr : s.phase = .ready) (hstep : step s = .next t)
    (hreset : s.nextTurn ≠ .reset)
    (hdone : ∀ w, s.nextTurn = .engine → s.pending = some w → decode w ≠ .ok .rxdone) :
    s.SameFrame t ∨
    (s.nextTurn = .producer ∧ s.qcount < s.cap ∧ ∃ b, s.SameWindow t ∧ t.qcount = s.qcount + 1 ∧
      ∀ a, t.byteAt a = if a = (s.qhead + s.qcount) % s.cap then b else s.byteAt a) ∨
    (∃ w i, s.nextTurn = .engine ∧ s.pending = some w ∧ decode w = .ok i ∧ i.opcode.writesStorage = true ∧
      s.SameWindow t ∧ t.qcount = s.qcount) := by
  have hpop : s.SameFrame s.popTurn := ⟨⟨rfl, rfl, rfl, rfl, rfl⟩, rfl, fun _ => rfl⟩
  obtain ⟨-, -, rfl⟩ | ⟨-, w, r, -, -, rfl⟩ | ⟨hn, w, i, u, hp, hd, hx, rfl⟩ | ⟨-, rfl⟩ | ⟨hn, rfl⟩ | ⟨hn, -⟩ |
    ⟨-, rfl⟩ := step_cases hstep
  · exact .inl hpop
  · exact .inl { s.popTurn.raise_sameFrame .illegalCmd with }
  · have hi : i ≠ .rxdone := fun hi => hdone w hn hp (hi ▸ hd)
    obtain hf | ⟨hset, hw, hcount⟩ := exec_of_ready (s := s.popTurn) hr hi hx
    · exact .inl { hf with }
    · exact .inr (.inr ⟨w, i, hn, hp, hd, hset, { hw with }, hcount⟩)
  · exact .inl { s.popTurn.hostTurn_sameOutsideHost.sameFrame with }
  · obtain ⟨b, rest, -, hroom, ht⟩ | ht := s.popTurn.producerTurn_cases
    · rw [ht]
      exact .inr (.inl ⟨hn, hroom, b, ⟨rfl, rfl, rfl, rfl, rfl⟩, rfl, s.popTurn.byteAt_enqueue b⟩)
    · rw [ht]
      exact .inl hpop
  · exact absurd hn hreset
  · exact .inl hpop

/-- Settles O51: an append lands behind the last queued byte, and so behind the window. -/
theorem acceptedFrameIsHeld : Obligations.AcceptedFrameIsHeld := by
  unfold Obligations.AcceptedFrameIsHeld
  intro s t h hb hr hstep hreset hdone
  obtain ⟨⟨hstart, hlen, hphase, htime, hhead⟩, hcount, hbytes⟩ |
    ⟨hn, hroom, b, ⟨hstart, hlen, hphase, htime, hhead⟩, hcount, hbytes⟩ |
    ⟨w, i, hn, hp, hd, hset, ⟨hstart, hlen, hphase, htime, hhead⟩, hcount⟩ := step_of_ready hr hstep hreset hdone
  · exact ⟨hstart, hlen, hphase.trans hr, htime, hhead, .inl hcount, fun _ k _ => hbytes _⟩
  · refine ⟨hstart, hlen, hphase.trans hr, htime, hhead, .inr ⟨hn, hcount⟩, fun _ k hk => ?_⟩
    rw [hbytes, hb.phys_window, if_neg (State.queuedIndex_ne_tail hroom (Nat.lt_of_lt_of_le hk h.wlen_le))]
  · refine ⟨hstart, hlen, hphase.trans hr, htime, hhead, .inl hcount, fun hget => ?_⟩
    exact absurd (hset.symm.trans (hget w i hn hp hd)) nofun

end Sys2Proof.Machine

/-! PROOFS. Errors, the timestamp and several instances (60_exceptions.md). -/

/-! ## Errors: what raises them and what they stop (R250 to R256) -/

namespace Sys2Proof.Machine

/-- An Engine turn on an illegal word raises ILLEGAL_CMD (R100, R252). -/
theorem step_of_illegal {s : State} {w : Word} {r : Illegal} (hn : s.nextTurn = .engine) (hp : s.pending = some w)
    (hd : decode w = .error r) : step s = .next (s.popTurn.raise .illegalCmd).retire := by
  have hp' : s.popTurn.pending = some w := hp
  simp only [step, hn, engineTurn, hp', runWord, hd]

/-- Settles O8: the turn's three updates, one after another, are the record update the statement writes out. -/
theorem illegalCommandOnlyRecordsTheError : Obligations.IllegalCommandOnlyRecordsTheError := by
  unfold Obligations.IllegalCommandOnlyRecordsTheError
  intro s w r hn hp hd
  rw [step_of_illegal hn hp hd, State.raise_eq]
  rfl

/-- Settles O29: the range is one that CRC refuses before anything else. -/
theorem crcRangeError : Obligations.CrcRangeError := by
  unfold Obligations.CrcRangeError
  intro s v e hbad
  rw [← State.raise_eq]
  exact execCrc_bad (crcRangeBad_iff.2 hbad)

/-- An Engine turn answers a next state unless the window claims more bytes than the queue holds. -/
theorem step_next_of_engine {s : State} (hw : s.wlen ≤ s.qcount) (hn : s.nextTurn = .engine) :
    ∃ t, step s = .next t := by
  cases hp : s.pending with
  | none =>
    have hp' : s.popTurn.pending = none := hp
    exact ⟨s.popTurn, by simp only [step, hn, engineTurn, hp']⟩
  | some w =>
    cases hd : decode w with
    | error r => exact ⟨_, step_of_illegal hn hp hd⟩
    | ok i =>
      obtain ⟨u, hu⟩ := exec_next (s := s.popTurn) hw i
      exact ⟨u.retire, by rw [step_of_decode hn hp hd, hu]; rfl⟩

/-- Settles O55: only an Engine turn could stop the machine, and the invariant keeps the window within the queue. -/
theorem noErrorStopsTheBlock : Obligations.NoErrorStopsTheBlock := by
  unfold Obligations.NoErrorStopsTheBlock
  intro s h
  cases hn : s.nextTurn
  case engine => exact step_next_of_engine h.wlen_le hn
  case host | producer | reset | idle => exact ⟨_, by rw [step, hn]⟩

/-! ## An error once recorded (R255, R257) -/

namespace State

/-- ERR and ECODE are as they were. -/
def SameError (s t : State) : Prop := t.err = s.err ∧ t.ecode = s.ecode

theorem SameOutsideReceiver.sameError {s t : State} (h : s.SameOutsideReceiver t) : s.SameError t := by
  rw [h]
  exact ⟨rfl, rfl⟩

/-- A further error does nothing (R255). -/
theorem raise_of_err {s : State} (he : s.err = true) (c : ErrCode) : s.raise c = s := if_pos he

/-- Of the register writes only one of 1 to STATUS bit 8 touches ERR and ECODE, and it clears them (R257). -/
theorem writeReg_error_cases (s : State) (r : PortReg) (v : Word) :
    s.SameError (s.writeReg r v) ∨ (r = .status ∧ v.getLsbD 8 = true ∧ s.writeReg r v = s.clearErr) := by
  cases r
  case status =>
    rw [writeReg_status]
    by_cases hv : v.getLsbD 8 = true
    · exact .inr ⟨rfl, hv, if_pos hv⟩
    · rw [if_neg hv]
      exact .inl ⟨rfl, rfl⟩
  all_goals exact .inl ⟨rfl, rfl⟩

/-- A Producer turn touches storage, the queue's count and what the Producer holds (R66). -/
theorem producerTurn_eq (s : State) :
    ∃ m c l, s.producerTurn = { s with mem := m, qcount := c, incoming := l } := by
  obtain ⟨b, rest, -, -, ht⟩ | ht := s.producerTurn_cases
  · exact ⟨_, _, _, ht⟩
  · exact ⟨_, _, _, ht⟩

/-- From ERR = 1 a Host turn leaves the error as it is, or clears it by a write to STATUS while BUSY = 0. -/
theorem hostTurn_error_cases {s : State} (he : s.err = true) :
    s.SameError s.hostTurn ∨
    (s.busy = false ∧ ∃ off v rest, s.prog = .wr off v :: rest ∧ off.toNat / 4 = 0x1 ∧ v.getLsbD 8 = true ∧
      s.hostTurn.err = false ∧ s.hostTurn.ecode = .none) := by
  obtain ⟨off, v, rest, hprog, ht⟩ | ⟨l, rs, d, ht⟩ := s.hostTurn_cases
  case inr =>
    rw [ht]
    exact .inl ⟨rfl, rfl⟩
  cases hb : s.busy
  case true =>
    rw [ht, hostWrite_busy hb, raise_of_err he]
    exact .inl ⟨rfl, rfl⟩
  case false =>
    rw [ht, hostWrite_idle hb]
    obtain hsame | ⟨hr, hv, hclear⟩ := s.writeReg_error_cases (portReg off) v
    · exact .inl hsame
    · have hslot : off.toNat / 4 = 0x1 := by
        rw [slot_of_portReg (by rw [hr]; nofun), hr]
        rfl
      rw [hclear]
      exact .inr ⟨rfl, off, v, rest, hprog, hslot, hv, rfl, rfl⟩

end State

/-- From ERR = 1 every command leaves the error as it is, a CRC on an ill-formed range too. -/
theorem exec_sameError {i : Instr} {s t : State} (he : s.err = true) (h : exec i s = .next t) : s.SameError t := by
  obtain ⟨-, -, x, d, rfl⟩ | ⟨v, e, -, -, rfl⟩ | ⟨-, m, d, rfl, -⟩ | ⟨n, -, hr⟩ | ⟨-, hr⟩ | ⟨-, -, rfl⟩ := exec_cases h
  · exact ⟨rfl, rfl⟩
  · rw [State.raise_of_err he]
    exact ⟨rfl, rfl⟩
  · exact ⟨rfl, rfl⟩
  · exact ((sameOutsideReceiver_closed s).receive hr rfl).sameError
  · exact ((sameOutsideReceiver_closed s).toRxallClosed.receive hr rfl).sameError
  · exact ⟨rfl, rfl⟩

/-- Settles O49: of the ways a step can go, only a reset and a Host turn change the error. -/
theorem errorIsKeptUntilTheHostClearsIt : Obligations.ErrorIsKeptUntilTheHostClearsIt := by
  unfold Obligations.ErrorIsKeptUntilTheHostClearsIt
  intro s t hstep he hreset
  have kept : s.SameError t → t.err = true ∧ t.ecode = s.ecode := fun ⟨herr, hcode⟩ => ⟨herr.trans he, hcode⟩
  obtain ⟨-, -, rfl⟩ | ⟨-, w, r, -, -, rfl⟩ | ⟨-, w, i, u, -, -, hx, rfl⟩ | ⟨hn, rfl⟩ | ⟨-, rfl⟩ | ⟨hn, -⟩ |
    ⟨-, rfl⟩ := step_cases hstep
  · exact .inl (kept ⟨rfl, rfl⟩)
  · rw [State.raise_of_err (s := s.popTurn) he] at kept ⊢
    exact .inl (kept ⟨rfl, rfl⟩)
  · have hsame : s.popTurn.SameError u := exec_sameError he hx
    exact .inl (kept hsame)
  · obtain hsame | ⟨hb, off, v, rest, hprog, hslot, hv, herr, hcode⟩ :=
      State.hostTurn_error_cases (s := s.popTurn) he
    · exact .inl (kept hsame)
    · exact .inr ⟨hn, hb, off, v, rest, hprog, hslot, hv, herr, hcode⟩
  · obtain ⟨m, c, l, ht⟩ := s.popTurn.producerTurn_eq
    rw [ht] at kept ⊢
    exact .inl (kept ⟨rfl, rfl⟩)
  · exact absurd hn hreset
  · exact .inl (kept ⟨rfl, rfl⟩)

end Sys2Proof.Machine

/-! ## Samples of TIME (R266, R202) -/

namespace Sys2Proof.Machine

namespace State

/-- From s to t TIME was sampled t.times - s.times times, and RX_TIME is the last sample where there is one. -/
structure Sampled (s t : State) : Prop where
  source : t.source = s.source
  times_le : s.times ≤ t.times
  unsampled : t.times = s.times → t.rxtime = s.rxtime
  latest : s.times < t.times → t.rxtime = Config.time s.source (t.times - 1)

theorem Sampled.of_eq {s t : State} (hsource : t.source = s.source) (htimes : t.times = s.times)
    (hrxtime : t.rxtime = s.rxtime) : s.Sampled t :=
  ⟨hsource, htimes.ge, fun _ => hrxtime, fun hlt => absurd htimes hlt.ne'⟩

theorem grow_of_empty {s : State} (h0 : s.wlen = 0) :
    s.grow.times = s.times + 1 ∧ s.grow.rxtime = Config.time s.source s.times := ⟨if_pos h0, if_pos h0⟩

theorem grow_of_nonempty {s : State} (h0 : s.wlen ≠ 0) : s.grow.times = s.times ∧ s.grow.rxtime = s.rxtime :=
  ⟨if_neg h0, if_neg h0⟩

theorem Sampled.grow {s t : State} (h : s.Sampled t) : s.Sampled t.grow := by
  have hle := h.times_le
  by_cases h0 : t.wlen = 0
  · obtain ⟨htimes, hrxtime⟩ := grow_of_empty h0
    refine ⟨h.source, by omega, fun _ => by omega, fun _ => ?_⟩
    rw [hrxtime, htimes, h.source, Nat.add_sub_cancel]
  · obtain ⟨htimes, hrxtime⟩ := grow_of_nonempty h0
    refine ⟨h.source, htimes ▸ hle, fun heq => ?_, fun hlt => ?_⟩
    · rw [hrxtime, h.unsampled (htimes ▸ heq)]
    · rw [hrxtime, htimes, h.latest (htimes ▸ hlt)]

end State

/-- Of the parts of a receive command only `Grow()` samples TIME. -/
theorem sampled_closed (s : State) : RxincClosed s.Sampled where
  read _ h := { h with }
  phase _ _ h := { h with }
  report _ _ _ h := { h with }
  skip _ h _ := { h with }
  grow _ h _ := h.grow

/-- Every command leaves RX_TIME the latest sample, and only RXINC and RXALL sample. -/
theorem exec_sampled {i : Instr} {s t : State} (h : exec i s = .next t) :
    s.Sampled t ∧ (s.times < t.times → i.opcode = .rxinc ∨ i.opcode = .rxall) := by
  have kept (hsource : t.source = s.source) (htimes : t.times = s.times) (hrxtime : t.rxtime = s.rxtime) :
      s.Sampled t ∧ (s.times < t.times → i.opcode = .rxinc ∨ i.opcode = .rxall) :=
    ⟨.of_eq hsource htimes hrxtime, fun hlt => absurd htimes hlt.ne'⟩
  obtain ⟨-, -, x, d, rfl⟩ | ⟨v, e, -, -, rfl⟩ | ⟨-, m, d, rfl, -⟩ | ⟨n, rfl, hr⟩ | ⟨rfl, hr⟩ | ⟨-, -, rfl⟩ :=
    exec_cases h
  · exact kept rfl rfl rfl
  · exact kept (s.raise_source _) (s.raise_times _) (s.raise_rxtime _)
  · exact kept rfl rfl rfl
  · exact ⟨(sampled_closed s).receive hr (.of_eq rfl rfl rfl), fun _ => .inl rfl⟩
  · exact ⟨(sampled_closed s).toRxallClosed.receive hr (.of_eq rfl rfl rfl), fun _ => .inr rfl⟩
  · exact kept rfl rfl rfl

theorem scan_samples_nothing (n : Nat) (s : State) :
    (scan n s).2.times = s.times ∧ (scan n s).2.rxtime = s.rxtime :=
  scan_preserves (fun t => t.times = s.times ∧ t.rxtime = s.rxtime) (fun _ h => h) (fun _ _ h => h) (fun _ h _ => h)
    n s ⟨rfl, rfl⟩

/-! ### RXALL -/

/-- RXALL has sampled once if it has added a byte to an empty window, and else not at all. -/
structure State.SampledAtFirstByte (s t : State) : Prop where
  wlen_le : s.wlen ≤ t.wlen
  times_eq : t.times = if s.wlen = 0 ∧ s.wlen < t.wlen then s.times + 1 else s.times

theorem State.SampledAtFirstByte.refl (s : State) : s.SampledAtFirstByte s :=
  ⟨Nat.le_refl _, (if_neg fun h => Nat.lt_irrefl _ h.2).symm⟩

theorem sampledAtFirstByte_closed (s : State) : RxallClosed s.SampledAtFirstByte where
  read _ h := { h with }
  phase _ _ h := { h with }
  report _ _ _ h := { h with }
  grow t h _ := by
    obtain ⟨hle, htimes⟩ := h
    refine ⟨Nat.le_succ_of_le hle, ?_⟩
    rw [State.grow_wlen]
    by_cases h0 : t.wlen = 0
    · rw [if_neg (by omega)] at htimes
      rw [(State.grow_of_empty h0).1, htimes, if_pos (by omega)]
    · rw [(State.grow_of_nonempty h0).1, htimes]
      exact if_congr (by omega) rfl rfl

/-! ### RXINC -/

/-- What every part of an RXINC keeps it keeps from its first grow on. -/
theorem RxincClosed.rxincLoop_of_grow {P : State → Prop} (hP : RxincClosed P) {b : Nat} {u : State} (h0 : b ≠ 0)
    (hb : b + u.wlen ≤ u.qcount) (hg : P u.grow) : P (Machine.rxincLoop b u) := by
  obtain ⟨b, rfl⟩ := Nat.exists_eq_succ_of_ne_zero h0
  have hround : P u.round := hP.scan _ hg
  have hbal := State.round_balance (u := u) (by omega)
  rw [rxincLoop_succ]
  split
  · exact hP.report _ _ _ hround
  · exact hP.rxincLoop (by omega) hround

/-- At most one sample more than skipped bytes: a sample fills an empty window, which only a skip empties again. -/
structure State.SamplesWithinSkips (s t : State) : Prop where
  wlen_le : t.wlen ≤ t.qcount
  qcount_le : t.qcount ≤ s.qcount
  times_le : t.times + t.qcount ≤ s.times + s.qcount + min 1 t.wlen

theorem samplesWithinSkips_closed (s : State) : RxincClosed s.SamplesWithinSkips where
  read _ h := { h with }
  phase _ _ h := { h with }
  report _ _ _ h := { h with }
  grow t h hq := by
    obtain ⟨hle, hcount, htimes⟩ := h
    refine ⟨hq, hcount, ?_⟩
    simp only [State.grow_times, State.grow_qcount, State.grow_wlen]
    split <;> omega
  skip t h h0 := by
    obtain ⟨hle, hcount, htimes⟩ := h
    refine ⟨?_, ?_, ?_⟩ <;> simp only [State.skip_times, State.skip_qcount, State.skip_wlen] <;> omega

/-- With a byte added, the window is emptied only by skipping more bytes than s had in it, and until then nothing is
sampled. -/
structure State.UnsampledUntilEmptied (s t : State) : Prop where
  wlen_le : t.wlen ≤ t.qcount
  grown : s.wlen + t.qcount < t.wlen + s.qcount
  unsampled : s.qcount ≤ s.wlen + t.qcount → t.times = s.times

theorem unsampledUntilEmptied_closed (s : State) : RxincClosed s.UnsampledUntilEmptied where
  read _ h := { h with }
  phase _ _ h := { h with }
  report _ _ _ h := { h with }
  grow t h hq := by
    obtain ⟨hle, hgrown, htimes⟩ := h
    refine ⟨hq, ?_, fun hfew => ?_⟩
    · simp only [State.grow_qcount, State.grow_wlen]
      omega
    · have hfew' : s.qcount ≤ s.wlen + t.qcount := hfew
      have h0 : t.wlen ≠ 0 := by omega
      rw [(State.grow_of_nonempty h0).1, htimes hfew']
  skip t h h0 := by
    obtain ⟨hle, hgrown, htimes⟩ := h
    refine ⟨?_, ?_, fun hfew => htimes ?_⟩
    · exact Nat.sub_le_sub_right hle 1
    · simp only [State.skip_qcount, State.skip_wlen]
      omega
    · simp only [State.skip_qcount] at hfew
      omega

theorem State.UnsampledUntilEmptied.of_grow {s : State} (h0 : s.wlen ≠ 0) (hq : s.wlen < s.qcount) :
    s.UnsampledUntilEmptied s.grow :=
  ⟨hq, by simp only [State.grow_qcount, State.grow_wlen]; omega, fun _ => (State.grow_of_nonempty h0).1⟩

section

variable {s t : State} {n : Nat} (h : exec (.rxinc n) s = .next t)
include h

theorem rxinc_samples_of_empty (hr : s.phase ≠ .ready) (h0 : s.wlen = 0) (hn : 0 < n) (hq : 0 < s.qcount) :
    s.times < t.times := by
  have hfresh : s.fresh = s.qcount - s.wlen := rfl
  obtain ⟨hready, -⟩ | ⟨-, -, hb, -⟩ | ⟨-, hw, hb, rfl⟩ := receive_cases h
  · exact absurd hready hr
  · omega
  · have hafter : s.grow.Sampled (rxincLoop (min n s.fresh) s) :=
      (sampled_closed s.grow).rxincLoop_of_grow hb (by omega) (.of_eq rfl rfl rfl)
    have hfirst := (State.grow_of_empty h0).1
    have hle := hafter.times_le
    omega

theorem rxinc_samples_nothing (h0 : s.wlen ≠ 0) (hfew : s.qcount - t.qcount ≤ s.wlen) : t.times = s.times := by
  have hfresh : s.fresh = s.qcount - s.wlen := rfl
  obtain ⟨-, rfl⟩ | ⟨-, -, -, rfl⟩ | ⟨-, hw, hb, rfl⟩ := receive_cases h
  · rfl
  · rfl
  · exact ((unsampledUntilEmptied_closed s).rxincLoop_of_grow hb (by omega) (.of_grow h0 (by omega))).unsampled
      (by omega)

theorem rxinc_samples_within_skips : t.times ≤ s.times + 1 + (s.qcount - t.qcount) := by
  have hfresh : s.fresh = s.qcount - s.wlen := rfl
  obtain ⟨-, rfl⟩ | ⟨-, -, -, rfl⟩ | ⟨-, hw, -, rfl⟩ := receive_cases h
  · exact Nat.le_add_right_of_le (Nat.le_succ _)
  · exact Nat.le_add_right_of_le (Nat.le_succ _)
  · obtain ⟨-, hcount, htimes⟩ :=
      (samplesWithinSkips_closed s).rxincLoop (b := min n s.fresh) (by omega) ⟨hw, Nat.le_refl _, by omega⟩
    omega

end

theorem rxincLoop_one_times (s : State) : (rxincLoop 1 s).times = s.grow.times := by
  have hround : s.round.times = s.grow.times := (scan_samples_nothing _ _).1
  rw [rxincLoop_succ]
  split <;> exact hround

theorem rxinc_one_times {s t : State} (h : exec (.rxinc 1) s = .next t) :
    t.times = if s.phase ≠ .ready ∧ s.wlen = 0 ∧ 0 < s.qcount then s.times + 1 else s.times := by
  have hfresh : s.fresh = s.qcount - s.wlen := rfl
  obtain ⟨hr, rfl⟩ | ⟨-, hw, hb, rfl⟩ | ⟨hr, hw, hb, rfl⟩ := receive_cases h
  · exact (if_neg fun hc => hc.1 hr).symm
  · exact (if_neg fun hc => by omega).symm
  · have hone : min 1 s.fresh = 1 := by omega
    have hq : s.wlen = 0 → 0 < s.qcount := by omega
    rw [hone, rxincLoop_one_times, State.grow_times]
    exact if_congr ⟨fun h0 => ⟨hr, h0, hq h0⟩, fun hc => hc.2.1⟩ rfl rfl

/-! ### The step -/

/-- Outside reset, a step that samples TIME or writes RX_TIME is an Engine turn that runs RXINC or RXALL. -/
theorem step_samples {s t : State} (h : step s = .next t)
    (hchange : t.times ≠ s.times ∨ (t.rxtime ≠ s.rxtime ∧ s.nextTurn ≠ .reset)) :
    s.nextTurn = .engine ∧
      ∃ w i, s.pending = some w ∧ decode w = .ok i ∧ (i.opcode = .rxinc ∨ i.opcode = .rxall) := by
  have unchanged : t.times = s.times → (t.rxtime = s.rxtime ∨ s.nextTurn = .reset) → False := fun htimes hrest =>
    hchange.elim (fun hne => hne htimes) fun ⟨hne, hn⟩ => hrest.elim hne hn
  obtain ⟨-, -, rfl⟩ | ⟨-, w, r, -, -, rfl⟩ | ⟨hn, w, i, u, hp, hd, hx, rfl⟩ | ⟨-, rfl⟩ | ⟨-, rfl⟩ | ⟨hn, rfl⟩ |
    ⟨-, rfl⟩ := step_cases h
  · exact (unchanged rfl (.inl rfl)).elim
  · exact (unchanged (s.popTurn.raise_times _) (.inl (s.popTurn.raise_rxtime _))).elim
  · obtain ⟨hs, hop⟩ := exec_sampled hx
    have hne : u.times ≠ s.times := fun heq => unchanged heq (.inl (hs.unsampled heq))
    exact ⟨hn, w, i, hp, hd, hop (Nat.lt_of_le_of_ne hs.times_le hne.symm)⟩
  · have hs := s.popTurn.hostTurn_sameOutsideHost
    rw [hs] at unchanged
    exact (unchanged rfl (.inl rfl)).elim
  · obtain ⟨m, c, l, ht⟩ := s.popTurn.producerTurn_eq
    rw [ht] at unchanged
    exact (unchanged rfl (.inl rfl)).elim
  · exact (unchanged rfl (.inr hn)).elim
  · exact (unchanged rfl (.inl rfl)).elim

/-- Settles O42, clause by clause. -/
theorem timestampIsTheLatestSample : Obligations.TimestampIsTheLatestSample := by
  unfold Obligations.TimestampIsTheLatestSample
  refine ⟨fun i s t h => ?_, fun s t h => ?_, fun s t n h => ?_, fun s t => rxinc_one_times, fun s => ⟨rfl, rfl⟩,
    scan_samples_nothing, fun s t => step_samples⟩
  · obtain ⟨hs, hop⟩ := exec_sampled h
    exact ⟨hs.times_le, hs.unsampled, fun hlt => ⟨hs.latest hlt, hop hlt⟩⟩
  · exact ((sampledAtFirstByte_closed s).receive h (.refl s)).times_eq
  · refine ⟨rxinc_samples_of_empty h, fun h1 hfew => ?_, rxinc_samples_within_skips h⟩
    have htimes := rxinc_samples_nothing h (Nat.one_le_iff_ne_zero.1 h1) hfew
    exact ⟨htimes, (exec_sampled h).1.unsampled htimes⟩

end Sys2Proof.Machine

/-! ## Several instances (R268) -/

namespace Sys2Proof.Machine

/-- A step of the k-th of several machines changes nothing, or puts one state in its place. -/
theorem systemStep_cases {k : Nat} {sys sys' : List State} (h : systemStep k sys = .next sys') :
    sys' = sys ∨ ∃ t, sys' = sys.set k t := by
  unfold systemStep at h
  split at h
  · exact .inl (by simpa using h.symm)
  · split at h
    · exact .inr ⟨_, by simpa using h.symm⟩
    · cases h
    · cases h

/-- Settles O60: the step replaces one element of the list. -/
theorem instancesAreIndependent : Obligations.InstancesAreIndependent := by
  unfold Obligations.InstancesAreIndependent
  intro k j sys sys' h hj
  obtain rfl | ⟨t, rfl⟩ := systemStep_cases h
  · exact ⟨rfl, rfl⟩
  · exact ⟨List.getElem?_set_ne hj.symm, List.length_set⟩

end Sys2Proof.Machine

/-! PROOFS. Reset, and what can go wrong in the order of turns and commands (70_reset_and_hazards.md). -/

/-! ## Reset (R281) -/

namespace Sys2Proof.Machine

theorem step_of_reset {s : State} (hn : s.nextTurn = .reset) : step s = .next s.popTurn.applyReset := by
  rw [step, hn]

/-- Settles O53: the turn taken and the reset are the record update the statement writes out. -/
theorem resetDiscardsThePendingCommand : Obligations.ResetDiscardsThePendingCommand := by
  unfold Obligations.ResetDiscardsThePendingCommand
  exact fun s hn => step_of_reset hn

end Sys2Proof.Machine

/-! ## Parameters (R283) -/

namespace Sys2Proof.Machine

/-- t has the capacity and the collaborators of s. -/
def State.SameParameters (s t : State) : Prop := t.cap = s.cap ∧ t.collab = s.collab

theorem exec_sameParameters {i : Instr} {s t : State} (h : exec i s = .next t) : s.SameParameters t := by
  obtain ⟨-, -, -, -, -, -, -, -, -, hcap, hcollab, -⟩ := onlyTheListedCommandsWrite i s t h
  exact ⟨hcap, hcollab⟩

theorem State.SameOutsideHost.sameParameters {s t : State} (h : s.SameOutsideHost t) : s.SameParameters t := by
  rw [h]
  exact ⟨rfl, rfl⟩

theorem State.producerTurn_sameParameters (s : State) : s.SameParameters s.producerTurn := by
  obtain ⟨m, c, l, ht⟩ := s.producerTurn_eq
  rw [ht]
  exact ⟨rfl, rfl⟩

/-- Settles O50, one case for each way a step can go. -/
theorem parametersAreFixed : Obligations.ParametersAreFixed := by
  unfold Obligations.ParametersAreFixed
  intro s t hstep
  show s.popTurn.SameParameters t
  obtain ⟨-, -, rfl⟩ | ⟨-, w, r, -, -, rfl⟩ | ⟨-, w, i, u, -, -, hx, rfl⟩ | ⟨-, rfl⟩ | ⟨-, rfl⟩ | ⟨-, rfl⟩ |
    ⟨-, rfl⟩ := step_cases hstep
  · exact ⟨rfl, rfl⟩
  · exact ⟨s.popTurn.raise_cap _, s.popTurn.raise_collab _⟩
  · have hu := exec_sameParameters hx
    exact hu
  · exact s.popTurn.hostTurn_sameOutsideHost.sameParameters
  · exact s.popTurn.producerTurn_sameParameters
  · exact ⟨rfl, rfl⟩
  · exact ⟨rfl, rfl⟩

end Sys2Proof.Machine

/-! ## The window at the queue's head (R282, R33, R46 I3) -/

namespace Sys2Proof.Machine

theorem State.SameWindow.booted {s t : State} (h : s.SameWindow t) (hb : s.Booted) : t.Booted :=
  h.wstart.trans (hb.trans h.qhead.symm)

/-- A receive command moves the window's start and the queue's head together, RXDONE sets the one to the other, and
no other command moves either. -/
theorem exec_keeps_booted {i : Instr} {s t : State} (h : s.Inv) (hb : s.Booted) (hx : exec i s = .next t) :
    t.Booted := by
  obtain ⟨-, -, x, d, rfl⟩ | ⟨v, e, -, -, rfl⟩ | ⟨-, m, d, rfl, -⟩ | ⟨n, -, hr⟩ | ⟨-, hr⟩ | ⟨-, -, rfl⟩ := exec_cases hx
  · exact hb
  · exact (s.raise_sameFrame _).toSameWindow.booted hb
  · exact hb
  · exact (aligned_closed.receive hr (h.aligned hb)).booted
  · exact (aligned_closed.toRxallClosed.receive hr (h.aligned hb)).booted
  · rfl

/-- Settles O56: the boot is RXDONE's own update, and after it only commands move the window or the queue's head. -/
theorem bootEstablishesTheWindowAtTheHead : Obligations.BootEstablishesTheWindowAtTheHead := by
  unfold Obligations.BootEstablishesTheWindowAtTheHead
  refine ⟨fun s h => ⟨_, rxdoneDrainsTheWindow s h.wlen_le, rfl⟩, fun s t h hb hstep hreset => ?_⟩
  have hp : s.popTurn.Booted := hb
  obtain ⟨-, -, rfl⟩ | ⟨-, w, r, -, -, rfl⟩ | ⟨-, w, i, u, -, -, hx, rfl⟩ | ⟨-, rfl⟩ | ⟨-, rfl⟩ | ⟨hn, -⟩ |
    ⟨-, rfl⟩ := step_cases hstep
  · exact hp
  · exact (s.popTurn.raise_sameFrame .illegalCmd).toSameWindow.booted hp
  · have hu := exec_keeps_booted h.popTurn hp hx
    exact hu
  · exact s.popTurn.hostTurn_sameOutsideHost.sameFrame.toSameWindow.booted hp
  · obtain ⟨m, c, l, ht⟩ := s.popTurn.producerTurn_eq
    rw [ht]
    exact hp
  · exact absurd hn hreset
  · exact hp

end Sys2Proof.Machine

/-! ## False starts (R287, R288) -/

namespace Sys2Proof.Machine

/-- Settles O45: there is no new byte, the queue is full, and RXDONE consumes the whole of it. -/
theorem fullWindowStallsUntilRxdone : Obligations.FullWindowStallsUntilRxdone := by
  unfold Obligations.FullWindowStallsUntilRxdone
  intro s n hr hwhole hfull
  have hw : s.wlen ≤ s.qcount := Nat.le_of_eq hwhole
  obtain ⟨hrxinc, hrxall⟩ := noNewByteIsNodata s n hr hw
  have hempty : s.qcount - s.wlen = 0 := by omega
  exact ⟨hrxinc (.inr hwhole), hrxall hwhole, State.producerTurn_of_full (Nat.le_of_eq hfull.symm), _,
    rxdoneDrainsTheWindow s hw, hempty, rfl, rfl⟩

/-- A grow adds one byte at the window's end (R202). -/
theorem State.win_grow (s : State) : ∃ b, s.grow.win = s.win ++ [b] := by
  have hbytes : s.grow.win = (List.range (s.wlen + 1)).map fun k => s.memRead (s.phys .window k) k := rfl
  refine ⟨s.memRead (s.phys .window s.wlen) s.wlen, ?_⟩
  rw [hbytes, List.range_succ, List.map_append, List.map_singleton, State.win]

/-- A window that fails the start check fails it with one more byte too, `PredStart` being optimistic (R201 a). -/
theorem predStart_grow_of_bad_start {s : State} (hd : s.params.Duties) (hbad : s.params.predStart s.win = false) :
    s.params.predStart s.grow.win = false := by
  obtain ⟨b, hwin⟩ := s.win_grow
  rw [hwin, ← Bool.not_eq_true]
  exact fun hok => absurd (hbad.symm.trans (hd.start_optimistic _ _ hok)) nofun

/-- Settles O46: RXALL has no new byte, or its first round grows the window by one and finds the bad start again. -/
theorem rxallNeverRecoversFromABadStart : Obligations.RxallNeverRecoversFromABadStart := by
  unfold Obligations.RxallNeverRecoversFromABadStart
  intro s t h hb hd hr hbad hx
  have hfresh : s.fresh = s.qcount - s.wlen := rfl
  obtain ⟨hready, -⟩ | ⟨-, -, hzero, rfl⟩ | ⟨-, -, hbudget, rfl⟩ := receive_cases hx
  · exact absurd hready hr
  · have hlen : s.wlen = s.wlen + min 1 (s.qcount - s.wlen) := by omega
    exact ⟨rfl, hr, rfl, hlen, hbad⟩
  · have hg : s.grow.Aligned := aligned_closed.grow s (h.aligned hb) (by omega)
    have hlen : s.wlen + 1 = s.wlen + min 1 (s.qcount - s.wlen) := by omega
    have hbad' := predStart_grow_of_bad_start hd hbad
    obtain ⟨b, hsucc⟩ := Nat.exists_eq_succ_of_ne_zero hbudget
    rw [hsucc]
    obtain ⟨d, ⟨-, he⟩ | ⟨⟨hok, -⟩, -⟩ | ⟨⟨hok, -⟩, -⟩⟩ := rxallLoop_succ_cases b hg
    · rw [he]
      exact ⟨rfl, nofun, rfl, hlen, (congrArg _ (hg.win_reread d .searching)).trans hbad'⟩
    · exact absurd (hok.symm.trans hbad') nofun
    · exact absurd (hok.symm.trans hbad') nofun

end Sys2Proof.Machine

/-! ## A pending command is run (R293) -/

namespace Sys2Proof.Machine

theorem State.Inv.busy_of_pending {s : State} {w : Word} (h : s.Inv) (hp : s.pending = some w) : s.busy = true :=
  h.busy_iff.2 (Option.isSome_of_eq_some hp)

/-- While BUSY = 1 the Host cannot replace the pending word (R43). -/
theorem State.hostTurn_pending_of_busy {s : State} (hb : s.busy = true) : s.hostTurn.pending = s.pending := by
  obtain ⟨off, v, rest, -, ht⟩ | ⟨l, rs, d, ht⟩ := s.hostTurn_cases
  · rw [ht, hostWrite_busy hb]
    exact s.raise_pending _
  · rw [ht]

/-- A turn that is neither the Engine's nor a reset leaves a pending command to the turns behind it. -/
theorem pending_waits {s t : State} {w : Word} (h : s.Inv) (hp : s.pending = some w) (hstep : step s = .next t)
    (hengine : s.nextTurn ≠ .engine) (hreset : s.nextTurn ≠ .reset) :
    t.pending = some w ∧ t.sched = s.sched.tail := by
  have hb : s.popTurn.busy = true := h.busy_of_pending hp
  obtain ⟨hn, -⟩ | ⟨hn, -⟩ | ⟨hn, -⟩ | ⟨-, rfl⟩ | ⟨-, rfl⟩ | ⟨hn, -⟩ | ⟨-, rfl⟩ := step_cases hstep
  · exact absurd hn hengine
  · exact absurd hn hengine
  · exact absurd hn hengine
  · exact ⟨(State.hostTurn_pending_of_busy hb).trans hp, congrArg State.sched s.popTurn.hostTurn_sameOutsideHost⟩
  · obtain ⟨m, c, l, ht⟩ := s.popTurn.producerTurn_eq
    rw [ht]
    exact ⟨hp, rfl⟩
  · exact absurd hn hreset
  · exact ⟨hp, rfl⟩

/-- The Engine's turn runs a pending command, and a reset discards it: PENDING and BUSY are clear afterwards (R41,
R281). -/
theorem pending_is_cleared {s t : State} {w : Word} (hp : s.pending = some w) (hstep : step s = .next t)
    (hn : s.nextTurn = .engine ∨ s.nextTurn = .reset) : t.pending = none ∧ t.busy = false := by
  obtain ⟨-, hnone, -⟩ | ⟨-, w', r, -, -, rfl⟩ | ⟨-, w', i, u, -, -, -, rfl⟩ | ⟨hn', -⟩ | ⟨hn', -⟩ | ⟨-, rfl⟩ |
    ⟨hn', -⟩ := step_cases hstep
  · exact absurd (hnone.symm.trans hp) nofun
  · exact ⟨rfl, rfl⟩
  · exact ⟨rfl, rfl⟩
  · simp [hn'] at hn
  · simp [hn'] at hn
  · exact ⟨rfl, rfl⟩
  · simp [hn'] at hn

namespace State

variable {s : State} {turn : Turn} {rest : List Turn}

theorem nextTurn_of_listed (hl : s.sched = turn :: rest) : s.nextTurn = turn := by
  simp only [nextTurn, hl]

/-- Where the list names nobody, a pending command runs (R293, log 7). -/
theorem nextTurn_of_pending {w : Word} (hl : s.sched = []) (hp : s.pending = some w) : s.nextTurn = .engine := by
  simp only [nextTurn, hl, hp, Option.isSome_some, if_true]

end State

theorem run_succ_of_step (M : Host.Core) {s t : M.State} (hstep : M.step s = .next t) (k : Nat) :
    M.run (k + 1) s = M.run k t := by
  simp only [Host.Core.run, hstep]

/-- A pending command waits through the listed turns up to the Engine's or a reset; behind the last listed turn the
Engine's comes. -/
theorem turn_of_pending_comes {s : State} {w : Word} (h : s.Inv) (hp : s.pending = some w) :
    ∃ k u, k ≤ s.sched.length ∧ Host.Core.run Sys2Proof.core k s = .next u ∧ u.Inv ∧ u.pending = some w ∧
      (u.nextTurn = .engine ∨ (u.nextTurn = .reset ∧ Turn.reset ∈ s.sched)) := by
  induction hl : s.sched generalizing s with
  | nil => exact ⟨0, s, Nat.le_refl _, rfl, h, hp, .inl (State.nextTurn_of_pending hl hp)⟩
  | cons turn rest ih =>
    have hn : s.nextTurn = turn := State.nextTurn_of_listed hl
    by_cases hengine : turn = .engine
    · exact ⟨0, s, Nat.zero_le _, rfl, h, hp, .inl (hn.trans hengine)⟩
    by_cases hreset : turn = .reset
    · exact ⟨0, s, Nat.zero_le _, rfl, h, hp, .inr ⟨hn.trans hreset, hreset ▸ List.mem_cons_self⟩⟩
    obtain ⟨t, hstep⟩ := noErrorStopsTheBlock s h
    obtain ⟨hpt, hlt⟩ := pending_waits h hp hstep (hn ▸ hengine) (hn ▸ hreset)
    have hrest : t.sched = rest := by rw [hlt, hl, List.tail_cons]
    obtain ⟨k, u, hk, hrun, hu, hpu, hturn⟩ := ih (everyStepKeepsTheInvariant s t h hstep) hpt hrest
    exact ⟨k + 1, u, Nat.succ_le_succ hk, (run_succ_of_step Sys2Proof.core hstep k).trans hrun, hu, hpu,
      hturn.imp_right (And.imp_right (List.mem_cons_of_mem _))⟩

/-- Settles O59: the Engine's turn or a reset comes, and takes the command. -/
theorem pendingCommandIsRun : Obligations.PendingCommandIsRun := by
  unfold Obligations.PendingCommandIsRun
  intro s w h hp
  obtain ⟨k, u, hk, hrun, hu, hpu, hturn⟩ := turn_of_pending_comes h hp
  obtain ⟨t, hstep⟩ := noErrorStopsTheBlock u hu
  obtain ⟨hnone, hidle⟩ := pending_is_cleared hpu hstep (hturn.imp_right And.left)
  exact ⟨k, u, t, hk, hrun, hpu, hturn, hstep, hnone, hidle⟩

end Sys2Proof.Machine

/-! ## A window longer than the queue (log 10) -/

namespace Sys2Proof.Machine

section

variable {s : State}

theorem State.windowBeyond_eq_true (hw : s.qcount < s.wlen) : s.windowBeyond = true :=
  decide_eq_true hw

/-- The guard comes before the budget, so it stops RXINC and RXALL alike (R206, R207). -/
theorem receive_of_windowBeyond {budget : Nat} {loop : Nat → State → State} (hr : s.phase ≠ .ready)
    (hw : s.qcount < s.wlen) : receive budget loop s = .fault .windowBeyondQueue := by
  simp only [receive, hr, State.windowBeyond_eq_true hw, if_false, if_true]

theorem execRxDone_of_windowBeyond (hw : s.qcount < s.wlen) : execRxDone s = .fault .windowBeyondQueue := by
  simp only [execRxDone, State.windowBeyond_eq_true hw, if_true]

end

/-- Settles O41: each of the three commands asks whether the window lies within the queue before it changes
anything. -/
theorem windowBeyondTheQueueStops : Obligations.WindowBeyondTheQueueStops := by
  unfold Obligations.WindowBeyondTheQueueStops
  intro s n hw
  exact ⟨execRxDone_of_windowBeyond hw,
    fun hr => ⟨receive_of_windowBeyond hr hw, receive_of_windowBeyond hr hw⟩⟩

end Sys2Proof.Machine
